-- ==== Sys2Proof/Word.lean ====
section
/-! DEFINITION. The two bit-vector types of the model. The EC code is the only value whose width the spec fixes
(00_scope.md R4); a byte is the unit in which the host hands a code to the decoder (log 3). -/

namespace Sys2Proof

/-- An Exception Class code: six bits, `EC[5]` the leftmost digit, weight 32 (R4, R7, R31). -/
abbrev EcCode := BitVec 6

/-- The unit in which a code is handed to the decoder (log 3: DESIGN CHOICE). -/
abbrev Byte := BitVec 8

end Sys2Proof
end

