-- ==== Sys2Proof/Syntax.lean ====
section
/-! DEFINITION. The names the spec gives: Execution states, Exception levels, causes, ISS formats, the 35 classes,
and `Instr`, one constructor for each of the 64 rows of spec/opcode_table.json. The labels are the spec's own
(92_eei_decisions.md D1). -/

namespace Sys2Proof

/-- The two Execution states (R10). -/
inductive ExecState where
  | aarch32
  | aarch64
deriving DecidableEq, Repr

/-- The Exception levels a cause can arise at. `el0` is the spec's name for the level below EL1 (R11, D6). -/
inductive El where
  | el0
  | el1
  | el2
  | el3
deriving DecidableEq, Repr

/-- The Exception levels an exception can be taken to; EL0 is never a target (R11). -/
inductive Target where
  | el1
  | el2
  | el3
deriving DecidableEq, Repr

/-- How the level a cause arose at stands to the target (R92). -/
inductive Relation where
  | lower
  | current
deriving DecidableEq, Repr

/-- The two wait instructions one EC value serves (R51). -/
inductive WfxInstr where
  | wfe
  | wfi
deriving DecidableEq, Repr

/-- The three coprocessor numbers the source names (R16). -/
inductive CoprocNum where
  | cp10
  | cp14
  | cp15
deriving DecidableEq, Repr

/-- The CP10 registers whose reads ID Group traps cover (R17, R57). -/
inductive IdReg where
  | mvfr0
  | mvfr1
  | mvfr2
  | fpsid
deriving DecidableEq, Repr

/-- The CP14 registers LDC and STC have architected uses of, and any other (R17, R55, U7). -/
inductive Cp14Reg where
  | dbgdtrrxEl0
  | dbgdtrrxInt
  | dbgdtrtxEl0
  | dbgdtrtxInt
  | other
deriving DecidableEq, Repr

/-- The kinds of coprocessor access of R91's cause type. -/
inductive CoprocKind where
  | mcrMrc
  | mcrrMrrc
  | ldcStc
  | idRead (reg : IdReg)
deriving DecidableEq, Repr

/-- How an instruction access can fail (R25). -/
inductive InstrAbortKind where
  | mmuFault
  | syncExternalAbort
  | syncParityError
deriving DecidableEq, Repr

/-- How a data access can fail (R26). -/
inductive DataAbortKind where
  | mmuFault
  | alignmentFault
  | syncExternalAbort
  | syncParityError
deriving DecidableEq, Repr

/-- A cause: one constructor for each kind of event the 35 descriptions name (R91). Only `wfx` carries the result of
a condition code check (R15, R98); an abort has no debug, SP or PC constructor (R100). -/
inductive Cause where
  | unknownReason
  | wfx (which : WfxInstr) (condPassed : Bool)
  | coprocAccess (cp : CoprocNum) (kind : CoprocKind)
  | simdFpAccess
  | illegalExecutionState
  | svc
  | hvc
  | smc
  | sysAccess64
  | instructionAbort (kind : InstrAbortKind)
  | pcAlignment
  | dataAbort (kind : DataAbortKind)
  | spAlignment
  | fpException
  | sError
  | breakpoint
  | softwareStep
  | watchpoint
  | vectorCatch
  | bkpt
  | brk
deriving DecidableEq, Repr

/-- The 19 ISS formats the source names; their contents are in no source (R36, N3). -/
inductive IssFormat where
  /-- `ISS_UNKNOWN` (page D7-1837). -/
  | unknown
  /-- `ISS_WFX` (page D7-1837). -/
  | wfx
  /-- `ISS_MCR_MRC` (page D7-1839). -/
  | mcrMrc
  /-- `ISS_MCRR_MRRC` (page D7-1840). -/
  | mcrrMrrc
  /-- `ISS_LDC_STC` (page D7-1842). -/
  | ldcStc
  /-- `ISS_SIMD_FP` (page D7-1844). -/
  | simdFp
  /-- `ISS_ILLEGAL_PC_SP` (page D7-1845). -/
  | illegalPcSp
  /-- `ISS_HVC_SVC` (page D7-1845). -/
  | hvcSvc
  /-- `ISS_SMC32` (page D7-1846). -/
  | smc32
  /-- `ISS_SMC64` (page D7-1846). -/
  | smc64
  /-- `ISS_SYS64` (page D7-1847). -/
  | sys64
  /-- `ISS_IABT` (page D7-1848). -/
  | iabt
  /-- `ISS_DABT` (page D7-1849). -/
  | dabt
  /-- `ISS_FP_EXC` (page D7-1852). -/
  | fpExc
  /-- `ISS_SERROR` (page D7-1854). -/
  | serror
  /-- `ISS_BREAKPOINT_VCATCH` (page D7-1854). -/
  | breakpointVcatch
  /-- `ISS_SOFTSTEP` (page D7-1857). -/
  | softstep
  /-- `ISS_WATCHPOINT` (page D7-1855). -/
  | watchpoint
  /-- `ISS_SW_BREAKPOINT` (page D7-1858). -/
  | swBreakpoint
deriving DecidableEq, Repr

/-- The 35 allocated classes (R32). -/
inductive EcClass where
  /-- `EC_UNKNOWN`, EC `0b000000` (R50). -/
  | unknown
  /-- `EC_WFX`, EC `0b000001` (R51). -/
  | wfx
  /-- `EC_CP15_MCR_MRC`, EC `0b000011` (R52). -/
  | cp15McrMrc
  /-- `EC_CP15_MCRR_MRRC`, EC `0b000100` (R53). -/
  | cp15McrrMrrc
  /-- `EC_CP14_MCR_MRC`, EC `0b000101` (R54). -/
  | cp14McrMrc
  /-- `EC_CP14_LDC_STC`, EC `0b000110` (R55). -/
  | cp14LdcStc
  /-- `EC_SIMD_FP_ACCESS`, EC `0b000111` (R56). -/
  | simdFpAccess
  /-- `EC_CP10_ID`, EC `0b001000` (R57). -/
  | cp10Id
  /-- `EC_CP14_MCRR_MRRC`, EC `0b001100` (R58). -/
  | cp14McrrMrrc
  /-- `EC_ILLEGAL_STATE`, EC `0b001110` (R59). -/
  | illegalState
  /-- `EC_SVC32`, EC `0b010001` (R60). -/
  | svc32
  /-- `EC_HVC32`, EC `0b010010` (R61). -/
  | hvc32
  /-- `EC_SMC32`, EC `0b010011` (R62). -/
  | smc32
  /-- `EC_SVC64`, EC `0b010101` (R63). -/
  | svc64
  /-- `EC_HVC64`, EC `0b010110` (R64). -/
  | hvc64
  /-- `EC_SMC64`, EC `0b010111` (R65). -/
  | smc64
  /-- `EC_SYS64`, EC `0b011000` (R66). -/
  | sys64
  /-- `EC_IABT_LOWER`, EC `0b100000` (R70). -/
  | iabtLower
  /-- `EC_IABT_CURRENT`, EC `0b100001` (R71). -/
  | iabtCurrent
  /-- `EC_PC_ALIGN`, EC `0b100010` (R72). -/
  | pcAlign
  /-- `EC_DABT_LOWER`, EC `0b100100` (R73). -/
  | dabtLower
  /-- `EC_DABT_CURRENT`, EC `0b100101` (R74). -/
  | dabtCurrent
  /-- `EC_SP_ALIGN`, EC `0b100110` (R75). -/
  | spAlign
  /-- `EC_FP_EXC32`, EC `0b101000` (R76). -/
  | fpExc32
  /-- `EC_FP_EXC64`, EC `0b101100` (R77). -/
  | fpExc64
  /-- `EC_SERROR`, EC `0b101111` (R78). -/
  | serror
  /-- `EC_BREAKPOINT_LOWER`, EC `0b110000` (R80). -/
  | breakpointLower
  /-- `EC_BREAKPOINT_CURRENT`, EC `0b110001` (R81). -/
  | breakpointCurrent
  /-- `EC_SOFTSTEP_LOWER`, EC `0b110010` (R82). -/
  | softstepLower
  /-- `EC_SOFTSTEP_CURRENT`, EC `0b110011` (R83). -/
  | softstepCurrent
  /-- `EC_WATCHPOINT_LOWER`, EC `0b110100` (R84). -/
  | watchpointLower
  /-- `EC_WATCHPOINT_CURRENT`, EC `0b110101` (R85). -/
  | watchpointCurrent
  /-- `EC_BKPT32`, EC `0b111000` (R86). -/
  | bkpt32
  /-- `EC_VECTOR_CATCH32`, EC `0b111010` (R87). -/
  | vectorCatch32
  /-- `EC_BRK64`, EC `0b111100` (R88). -/
  | brk64
deriving DecidableEq, Repr

/-- The 35 classes in the source's order (R2, R32). -/
def EcClass.all : List EcClass :=
  [.unknown, .wfx, .cp15McrMrc, .cp15McrrMrrc, .cp14McrMrc, .cp14LdcStc, .simdFpAccess, .cp10Id, .cp14McrrMrrc, .illegalState, .svc32, .hvc32, .smc32, .svc64, .hvc64, .smc64, .sys64, .iabtLower, .iabtCurrent, .pcAlign, .dabtLower, .dabtCurrent, .spAlign, .fpExc32, .fpExc64, .serror, .breakpointLower, .breakpointCurrent, .softstepLower, .softstepCurrent, .watchpointLower, .watchpointCurrent, .bkpt32, .vectorCatch32, .brk64]

/-- One constructor for each row of the opcode table: the 35 classes and the 29 reserved values (R6, R32, R33). No
row has an operand (R36, R39). -/
inductive Instr where
  /-- `EC_UNKNOWN`, code `0b000000` (R50). -/
  | ecUnknown
  /-- `EC_WFX`, code `0b000001` (R51). -/
  | ecWfx
  /-- `RESERVED_02`, code `0b000010` (R33). -/
  | reserved02
  /-- `EC_CP15_MCR_MRC`, code `0b000011` (R52). -/
  | ecCp15McrMrc
  /-- `EC_CP15_MCRR_MRRC`, code `0b000100` (R53). -/
  | ecCp15McrrMrrc
  /-- `EC_CP14_MCR_MRC`, code `0b000101` (R54). -/
  | ecCp14McrMrc
  /-- `EC_CP14_LDC_STC`, code `0b000110` (R55). -/
  | ecCp14LdcStc
  /-- `EC_SIMD_FP_ACCESS`, code `0b000111` (R56). -/
  | ecSimdFpAccess
  /-- `EC_CP10_ID`, code `0b001000` (R57). -/
  | ecCp10Id
  /-- `RESERVED_09`, code `0b001001` (R33). -/
  | reserved09
  /-- `RESERVED_0A`, code `0b001010` (R33). -/
  | reserved0A
  /-- `RESERVED_0B`, code `0b001011` (R33). -/
  | reserved0B
  /-- `EC_CP14_MCRR_MRRC`, code `0b001100` (R58). -/
  | ecCp14McrrMrrc
  /-- `RESERVED_0D`, code `0b001101` (R33). -/
  | reserved0D
  /-- `EC_ILLEGAL_STATE`, code `0b001110` (R59). -/
  | ecIllegalState
  /-- `RESERVED_0F`, code `0b001111` (R33). -/
  | reserved0F
  /-- `RESERVED_10`, code `0b010000` (R33). -/
  | reserved10
  /-- `EC_SVC32`, code `0b010001` (R60). -/
  | ecSvc32
  /-- `EC_HVC32`, code `0b010010` (R61). -/
  | ecHvc32
  /-- `EC_SMC32`, code `0b010011` (R62). -/
  | ecSmc32
  /-- `RESERVED_14`, code `0b010100` (R33). -/
  | reserved14
  /-- `EC_SVC64`, code `0b010101` (R63). -/
  | ecSvc64
  /-- `EC_HVC64`, code `0b010110` (R64). -/
  | ecHvc64
  /-- `EC_SMC64`, code `0b010111` (R65). -/
  | ecSmc64
  /-- `EC_SYS64`, code `0b011000` (R66). -/
  | ecSys64
  /-- `RESERVED_19`, code `0b011001` (R33). -/
  | reserved19
  /-- `RESERVED_1A`, code `0b011010` (R33). -/
  | reserved1A
  /-- `RESERVED_1B`, code `0b011011` (R33). -/
  | reserved1B
  /-- `RESERVED_1C`, code `0b011100` (R33). -/
  | reserved1C
  /-- `RESERVED_1D`, code `0b011101` (R33). -/
  | reserved1D
  /-- `RESERVED_1E`, code `0b011110` (R33). -/
  | reserved1E
  /-- `RESERVED_1F`, code `0b011111` (R33). -/
  | reserved1F
  /-- `EC_IABT_LOWER`, code `0b100000` (R70). -/
  | ecIabtLower
  /-- `EC_IABT_CURRENT`, code `0b100001` (R71). -/
  | ecIabtCurrent
  /-- `EC_PC_ALIGN`, code `0b100010` (R72). -/
  | ecPcAlign
  /-- `RESERVED_23`, code `0b100011` (R33). -/
  | reserved23
  /-- `EC_DABT_LOWER`, code `0b100100` (R73). -/
  | ecDabtLower
  /-- `EC_DABT_CURRENT`, code `0b100101` (R74). -/
  | ecDabtCurrent
  /-- `EC_SP_ALIGN`, code `0b100110` (R75). -/
  | ecSpAlign
  /-- `RESERVED_27`, code `0b100111` (R33). -/
  | reserved27
  /-- `EC_FP_EXC32`, code `0b101000` (R76). -/
  | ecFpExc32
  /-- `RESERVED_29`, code `0b101001` (R33). -/
  | reserved29
  /-- `RESERVED_2A`, code `0b101010` (R33). -/
  | reserved2A
  /-- `RESERVED_2B`, code `0b101011` (R33). -/
  | reserved2B
  /-- `EC_FP_EXC64`, code `0b101100` (R77). -/
  | ecFpExc64
  /-- `RESERVED_2D`, code `0b101101` (R33). -/
  | reserved2D
  /-- `RESERVED_2E`, code `0b101110` (R33). -/
  | reserved2E
  /-- `EC_SERROR`, code `0b101111` (R78). -/
  | ecSerror
  /-- `EC_BREAKPOINT_LOWER`, code `0b110000` (R80). -/
  | ecBreakpointLower
  /-- `EC_BREAKPOINT_CURRENT`, code `0b110001` (R81). -/
  | ecBreakpointCurrent
  /-- `EC_SOFTSTEP_LOWER`, code `0b110010` (R82). -/
  | ecSoftstepLower
  /-- `EC_SOFTSTEP_CURRENT`, code `0b110011` (R83). -/
  | ecSoftstepCurrent
  /-- `EC_WATCHPOINT_LOWER`, code `0b110100` (R84). -/
  | ecWatchpointLower
  /-- `EC_WATCHPOINT_CURRENT`, code `0b110101` (R85). -/
  | ecWatchpointCurrent
  /-- `RESERVED_36`, code `0b110110` (R33). -/
  | reserved36
  /-- `RESERVED_37`, code `0b110111` (R33). -/
  | reserved37
  /-- `EC_BKPT32`, code `0b111000` (R86). -/
  | ecBkpt32
  /-- `RESERVED_39`, code `0b111001` (R33). -/
  | reserved39
  /-- `EC_VECTOR_CATCH32`, code `0b111010` (R87). -/
  | ecVectorCatch32
  /-- `RESERVED_3B`, code `0b111011` (R33). -/
  | reserved3B
  /-- `EC_BRK64`, code `0b111100` (R88). -/
  | ecBrk64
  /-- `RESERVED_3D`, code `0b111101` (R33). -/
  | reserved3D
  /-- `RESERVED_3E`, code `0b111110` (R33). -/
  | reserved3E
  /-- `RESERVED_3F`, code `0b111111` (R33). -/
  | reserved3F
deriving DecidableEq, Repr

/-- The row of a class. -/
def EcClass.row : EcClass → Instr
  | .unknown => .ecUnknown
  | .wfx => .ecWfx
  | .cp15McrMrc => .ecCp15McrMrc
  | .cp15McrrMrrc => .ecCp15McrrMrrc
  | .cp14McrMrc => .ecCp14McrMrc
  | .cp14LdcStc => .ecCp14LdcStc
  | .simdFpAccess => .ecSimdFpAccess
  | .cp10Id => .ecCp10Id
  | .cp14McrrMrrc => .ecCp14McrrMrrc
  | .illegalState => .ecIllegalState
  | .svc32 => .ecSvc32
  | .hvc32 => .ecHvc32
  | .smc32 => .ecSmc32
  | .svc64 => .ecSvc64
  | .hvc64 => .ecHvc64
  | .smc64 => .ecSmc64
  | .sys64 => .ecSys64
  | .iabtLower => .ecIabtLower
  | .iabtCurrent => .ecIabtCurrent
  | .pcAlign => .ecPcAlign
  | .dabtLower => .ecDabtLower
  | .dabtCurrent => .ecDabtCurrent
  | .spAlign => .ecSpAlign
  | .fpExc32 => .ecFpExc32
  | .fpExc64 => .ecFpExc64
  | .serror => .ecSerror
  | .breakpointLower => .ecBreakpointLower
  | .breakpointCurrent => .ecBreakpointCurrent
  | .softstepLower => .ecSoftstepLower
  | .softstepCurrent => .ecSoftstepCurrent
  | .watchpointLower => .ecWatchpointLower
  | .watchpointCurrent => .ecWatchpointCurrent
  | .bkpt32 => .ecBkpt32
  | .vectorCatch32 => .ecVectorCatch32
  | .brk64 => .ecBrk64

/-- The class of a row; a reserved row has none (R33). -/
def Instr.cls : Instr → Option EcClass
  | .ecUnknown => some .unknown
  | .ecWfx => some .wfx
  | .reserved02 => none
  | .ecCp15McrMrc => some .cp15McrMrc
  | .ecCp15McrrMrrc => some .cp15McrrMrrc
  | .ecCp14McrMrc => some .cp14McrMrc
  | .ecCp14LdcStc => some .cp14LdcStc
  | .ecSimdFpAccess => some .simdFpAccess
  | .ecCp10Id => some .cp10Id
  | .reserved09 => none
  | .reserved0A => none
  | .reserved0B => none
  | .ecCp14McrrMrrc => some .cp14McrrMrrc
  | .reserved0D => none
  | .ecIllegalState => some .illegalState
  | .reserved0F => none
  | .reserved10 => none
  | .ecSvc32 => some .svc32
  | .ecHvc32 => some .hvc32
  | .ecSmc32 => some .smc32
  | .reserved14 => none
  | .ecSvc64 => some .svc64
  | .ecHvc64 => some .hvc64
  | .ecSmc64 => some .smc64
  | .ecSys64 => some .sys64
  | .reserved19 => none
  | .reserved1A => none
  | .reserved1B => none
  | .reserved1C => none
  | .reserved1D => none
  | .reserved1E => none
  | .reserved1F => none
  | .ecIabtLower => some .iabtLower
  | .ecIabtCurrent => some .iabtCurrent
  | .ecPcAlign => some .pcAlign
  | .reserved23 => none
  | .ecDabtLower => some .dabtLower
  | .ecDabtCurrent => some .dabtCurrent
  | .ecSpAlign => some .spAlign
  | .reserved27 => none
  | .ecFpExc32 => some .fpExc32
  | .reserved29 => none
  | .reserved2A => none
  | .reserved2B => none
  | .ecFpExc64 => some .fpExc64
  | .reserved2D => none
  | .reserved2E => none
  | .ecSerror => some .serror
  | .ecBreakpointLower => some .breakpointLower
  | .ecBreakpointCurrent => some .breakpointCurrent
  | .ecSoftstepLower => some .softstepLower
  | .ecSoftstepCurrent => some .softstepCurrent
  | .ecWatchpointLower => some .watchpointLower
  | .ecWatchpointCurrent => some .watchpointCurrent
  | .reserved36 => none
  | .reserved37 => none
  | .ecBkpt32 => some .bkpt32
  | .reserved39 => none
  | .ecVectorCatch32 => some .vectorCatch32
  | .reserved3B => none
  | .ecBrk64 => some .brk64
  | .reserved3D => none
  | .reserved3E => none
  | .reserved3F => none

end Sys2Proof
end

