-- ==== Sys2Proof/Config.lean ====
section
/-! DEFINITION. What an implementation fixes (00_scope.md section 4) and the two free values. The parameters are a
structure that State carries and no step writes (log 4); the free values are constants without a body, so that
nothing can evaluate them (log 7, log 19). -/

namespace Sys2Proof

/-- Byte order of the containing machine: OPEN, read by no rule (D13, log 29). -/
inductive ByteOrder where
  | little
  | big
deriving DecidableEq, Repr

/-- The implementation parameters of 00_scope.md section 4 that are data. -/
structure Params where
  /-- `HAS_EL2` (D18). -/
  hasEL2 : Bool
  /-- `HAS_EL3` (D18). -/
  hasEL3 : Bool
  /-- `TARGET_USES_AARCH64(EL1)` (D18). -/
  el1UsesAArch64 : Bool
  /-- `TARGET_USES_AARCH64(EL2)` (D18). -/
  el2UsesAArch64 : Bool
  /-- `TARGET_USES_AARCH64(EL3)` (D18). -/
  el3UsesAArch64 : Bool
  /-- `HAS_A32_FP_TRAP` (R111, D19). -/
  hasA32FpTrap : Bool
  /-- `disabled_call_class`: a class, or `none` for `NoException` (R99, D10). -/
  disabledCallClass : Option EcClass
  /-- `EC_LSB` (R41, D2). -/
  ecLsb : Nat
  /-- `ISS_WIDTH` (R41, D2). -/
  issWidth : Nat
  /-- `W`, the width of a syndrome word (R41). -/
  wordWidth : Nat
  /-- `BYTE_ORDER` (D13). -/
  byteOrder : ByteOrder
deriving DecidableEq, Repr

/-- The parameter values the spec's test vectors assume (95_test_vectors.md, conventions). DESIGN CHOICE (log 4);
`disabledCallClass`, `ecLsb`, `issWidth` and `wordWidth` are the ARMv8-A values, PRESUMED (log 5). -/
def Params.vectorDefaults : Params where
  hasEL2 := true
  hasEL3 := true
  el1UsesAArch64 := true
  el2UsesAArch64 := true
  el3UsesAArch64 := true
  hasA32FpTrap := true
  disabledCallClass := some .unknown
  ecLsb := 26
  issWidth := 25
  wordWidth := 32
  byteOrder := .little

/-- `iss_of(format, cause)`: the free value recorded beside an EC, a fresh draw for each exception (R8, D8, log 7).
The first argument is the number of the draw. -/
opaque Config.issOf : Nat → IssFormat → Cause → Nat

/-- `priority`: the open relation on causes; `priority c d` says that `c` is presented rather than `d` (R103, D21,
log 19). -/
opaque Config.priority : Cause → Cause → Bool

end Sys2Proof
end

