-- ==== Sys2Proof/Decode.lean ====
section
/-! DEFINITION. The decoder of a code, total on any bytes and rejecting by name, the decoder `decode_ec` of six bits
(R40), and after them the encoder (R32, R33) and the place of a code in a syndrome word (R41). -/

namespace Sys2Proof

/-- Why bytes are no code. -/
inductive DecodeError where
  /-- No byte was given. -/
  | noCode
  /-- A code has one length, six bits, held in one byte (R39, log 3). -/
  | trailingBytes
  /-- Bit 6 or bit 7 of the byte is set: not a 6-bit value (R4, log 3). -/
  | spareBitsSet
deriving DecidableEq, Repr

/-- The row a byte's value selects (R32, R33); all six bits are significant (R40). -/
def decodeByte (n : Nat) : Except DecodeError Instr :=
  match n with
  | 0b000000 => .ok .ecUnknown
  | 0b000001 => .ok .ecWfx
  | 0b000010 => .ok .reserved02
  | 0b000011 => .ok .ecCp15McrMrc
  | 0b000100 => .ok .ecCp15McrrMrrc
  | 0b000101 => .ok .ecCp14McrMrc
  | 0b000110 => .ok .ecCp14LdcStc
  | 0b000111 => .ok .ecSimdFpAccess
  | 0b001000 => .ok .ecCp10Id
  | 0b001001 => .ok .reserved09
  | 0b001010 => .ok .reserved0A
  | 0b001011 => .ok .reserved0B
  | 0b001100 => .ok .ecCp14McrrMrrc
  | 0b001101 => .ok .reserved0D
  | 0b001110 => .ok .ecIllegalState
  | 0b001111 => .ok .reserved0F
  | 0b010000 => .ok .reserved10
  | 0b010001 => .ok .ecSvc32
  | 0b010010 => .ok .ecHvc32
  | 0b010011 => .ok .ecSmc32
  | 0b010100 => .ok .reserved14
  | 0b010101 => .ok .ecSvc64
  | 0b010110 => .ok .ecHvc64
  | 0b010111 => .ok .ecSmc64
  | 0b011000 => .ok .ecSys64
  | 0b011001 => .ok .reserved19
  | 0b011010 => .ok .reserved1A
  | 0b011011 => .ok .reserved1B
  | 0b011100 => .ok .reserved1C
  | 0b011101 => .ok .reserved1D
  | 0b011110 => .ok .reserved1E
  | 0b011111 => .ok .reserved1F
  | 0b100000 => .ok .ecIabtLower
  | 0b100001 => .ok .ecIabtCurrent
  | 0b100010 => .ok .ecPcAlign
  | 0b100011 => .ok .reserved23
  | 0b100100 => .ok .ecDabtLower
  | 0b100101 => .ok .ecDabtCurrent
  | 0b100110 => .ok .ecSpAlign
  | 0b100111 => .ok .reserved27
  | 0b101000 => .ok .ecFpExc32
  | 0b101001 => .ok .reserved29
  | 0b101010 => .ok .reserved2A
  | 0b101011 => .ok .reserved2B
  | 0b101100 => .ok .ecFpExc64
  | 0b101101 => .ok .reserved2D
  | 0b101110 => .ok .reserved2E
  | 0b101111 => .ok .ecSerror
  | 0b110000 => .ok .ecBreakpointLower
  | 0b110001 => .ok .ecBreakpointCurrent
  | 0b110010 => .ok .ecSoftstepLower
  | 0b110011 => .ok .ecSoftstepCurrent
  | 0b110100 => .ok .ecWatchpointLower
  | 0b110101 => .ok .ecWatchpointCurrent
  | 0b110110 => .ok .reserved36
  | 0b110111 => .ok .reserved37
  | 0b111000 => .ok .ecBkpt32
  | 0b111001 => .ok .reserved39
  | 0b111010 => .ok .ecVectorCatch32
  | 0b111011 => .ok .reserved3B
  | 0b111100 => .ok .ecBrk64
  | 0b111101 => .ok .reserved3D
  | 0b111110 => .ok .reserved3E
  | 0b111111 => .ok .reserved3F
  | _ => .error .spareBitsSet

/-- The decoder on any bytes. -/
def decode : List Byte → Except DecodeError Instr
  | [] => .error .noCode
  | [b] => decodeByte b.toNat
  | _ :: _ :: _ => .error .trailingBytes

/-- What `decode_ec` answers: `Class(c)` or `Reserved(v)` (R40). -/
inductive DecodedEc where
  | allocated (c : EcClass)
  | reserved (v : EcCode)
deriving DecidableEq, Repr

/-- `decode_ec` (R40): 35 class arms and one final arm, which the 29 values of R33 take. -/
def decodeEc (v : EcCode) : DecodedEc :=
  match v.toNat with
  | 0b000000 => .allocated .unknown
  | 0b000001 => .allocated .wfx
  | 0b000011 => .allocated .cp15McrMrc
  | 0b000100 => .allocated .cp15McrrMrrc
  | 0b000101 => .allocated .cp14McrMrc
  | 0b000110 => .allocated .cp14LdcStc
  | 0b000111 => .allocated .simdFpAccess
  | 0b001000 => .allocated .cp10Id
  | 0b001100 => .allocated .cp14McrrMrrc
  | 0b001110 => .allocated .illegalState
  | 0b010001 => .allocated .svc32
  | 0b010010 => .allocated .hvc32
  | 0b010011 => .allocated .smc32
  | 0b010101 => .allocated .svc64
  | 0b010110 => .allocated .hvc64
  | 0b010111 => .allocated .smc64
  | 0b011000 => .allocated .sys64
  | 0b100000 => .allocated .iabtLower
  | 0b100001 => .allocated .iabtCurrent
  | 0b100010 => .allocated .pcAlign
  | 0b100100 => .allocated .dabtLower
  | 0b100101 => .allocated .dabtCurrent
  | 0b100110 => .allocated .spAlign
  | 0b101000 => .allocated .fpExc32
  | 0b101100 => .allocated .fpExc64
  | 0b101111 => .allocated .serror
  | 0b110000 => .allocated .breakpointLower
  | 0b110001 => .allocated .breakpointCurrent
  | 0b110010 => .allocated .softstepLower
  | 0b110011 => .allocated .softstepCurrent
  | 0b110100 => .allocated .watchpointLower
  | 0b110101 => .allocated .watchpointCurrent
  | 0b111000 => .allocated .bkpt32
  | 0b111010 => .allocated .vectorCatch32
  | 0b111100 => .allocated .brk64
  | _ => .reserved v

/-- `encode_ec` (R32). -/
def encodeEc : EcClass → EcCode
  | .unknown => 0b000000#6
  | .wfx => 0b000001#6
  | .cp15McrMrc => 0b000011#6
  | .cp15McrrMrrc => 0b000100#6
  | .cp14McrMrc => 0b000101#6
  | .cp14LdcStc => 0b000110#6
  | .simdFpAccess => 0b000111#6
  | .cp10Id => 0b001000#6
  | .cp14McrrMrrc => 0b001100#6
  | .illegalState => 0b001110#6
  | .svc32 => 0b010001#6
  | .hvc32 => 0b010010#6
  | .smc32 => 0b010011#6
  | .svc64 => 0b010101#6
  | .hvc64 => 0b010110#6
  | .smc64 => 0b010111#6
  | .sys64 => 0b011000#6
  | .iabtLower => 0b100000#6
  | .iabtCurrent => 0b100001#6
  | .pcAlign => 0b100010#6
  | .dabtLower => 0b100100#6
  | .dabtCurrent => 0b100101#6
  | .spAlign => 0b100110#6
  | .fpExc32 => 0b101000#6
  | .fpExc64 => 0b101100#6
  | .serror => 0b101111#6
  | .breakpointLower => 0b110000#6
  | .breakpointCurrent => 0b110001#6
  | .softstepLower => 0b110010#6
  | .softstepCurrent => 0b110011#6
  | .watchpointLower => 0b110100#6
  | .watchpointCurrent => 0b110101#6
  | .bkpt32 => 0b111000#6
  | .vectorCatch32 => 0b111010#6
  | .brk64 => 0b111100#6

/-- The code of a row: `encode_ec` of its class, or its reserved value (R32, R33). -/
def Instr.code : Instr → EcCode
  | .ecUnknown => encodeEc .unknown
  | .ecWfx => encodeEc .wfx
  | .reserved02 => 0b000010#6
  | .ecCp15McrMrc => encodeEc .cp15McrMrc
  | .ecCp15McrrMrrc => encodeEc .cp15McrrMrrc
  | .ecCp14McrMrc => encodeEc .cp14McrMrc
  | .ecCp14LdcStc => encodeEc .cp14LdcStc
  | .ecSimdFpAccess => encodeEc .simdFpAccess
  | .ecCp10Id => encodeEc .cp10Id
  | .reserved09 => 0b001001#6
  | .reserved0A => 0b001010#6
  | .reserved0B => 0b001011#6
  | .ecCp14McrrMrrc => encodeEc .cp14McrrMrrc
  | .reserved0D => 0b001101#6
  | .ecIllegalState => encodeEc .illegalState
  | .reserved0F => 0b001111#6
  | .reserved10 => 0b010000#6
  | .ecSvc32 => encodeEc .svc32
  | .ecHvc32 => encodeEc .hvc32
  | .ecSmc32 => encodeEc .smc32
  | .reserved14 => 0b010100#6
  | .ecSvc64 => encodeEc .svc64
  | .ecHvc64 => encodeEc .hvc64
  | .ecSmc64 => encodeEc .smc64
  | .ecSys64 => encodeEc .sys64
  | .reserved19 => 0b011001#6
  | .reserved1A => 0b011010#6
  | .reserved1B => 0b011011#6
  | .reserved1C => 0b011100#6
  | .reserved1D => 0b011101#6
  | .reserved1E => 0b011110#6
  | .reserved1F => 0b011111#6
  | .ecIabtLower => encodeEc .iabtLower
  | .ecIabtCurrent => encodeEc .iabtCurrent
  | .ecPcAlign => encodeEc .pcAlign
  | .reserved23 => 0b100011#6
  | .ecDabtLower => encodeEc .dabtLower
  | .ecDabtCurrent => encodeEc .dabtCurrent
  | .ecSpAlign => encodeEc .spAlign
  | .reserved27 => 0b100111#6
  | .ecFpExc32 => encodeEc .fpExc32
  | .reserved29 => 0b101001#6
  | .reserved2A => 0b101010#6
  | .reserved2B => 0b101011#6
  | .ecFpExc64 => encodeEc .fpExc64
  | .reserved2D => 0b101101#6
  | .reserved2E => 0b101110#6
  | .ecSerror => encodeEc .serror
  | .ecBreakpointLower => encodeEc .breakpointLower
  | .ecBreakpointCurrent => encodeEc .breakpointCurrent
  | .ecSoftstepLower => encodeEc .softstepLower
  | .ecSoftstepCurrent => encodeEc .softstepCurrent
  | .ecWatchpointLower => encodeEc .watchpointLower
  | .ecWatchpointCurrent => encodeEc .watchpointCurrent
  | .reserved36 => 0b110110#6
  | .reserved37 => 0b110111#6
  | .ecBkpt32 => encodeEc .bkpt32
  | .reserved39 => 0b111001#6
  | .ecVectorCatch32 => encodeEc .vectorCatch32
  | .reserved3B => 0b111011#6
  | .ecBrk64 => encodeEc .brk64
  | .reserved3D => 0b111101#6
  | .reserved3E => 0b111110#6
  | .reserved3F => 0b111111#6

/-- The encoder: the one byte of a row, the code in its low six bits (log 3). -/
def encode (i : Instr) : List Byte :=
  [i.code.setWidth 8]

/-- The bytes of a number, least significant first. -/
def bytesOf : Nat → Nat → List Byte
  | 0, _ => []
  | k + 1, w => BitVec.ofNat 8 w :: bytesOf k (w / 256)

/-- The instruction the decoder reads from a row's bits, numbered as spec/opcode_table.json numbers them. -/
def decodeTableWord (nbits w : Nat) : Option Instr :=
  match decode (bytesOf ((nbits + 7) / 8) w) with
  | .ok i => some i
  | .error _ => none

/-- `ec_of_word(w) = bits[EC_LSB+5 : EC_LSB]` of `w` (R41). -/
def ecOfWord {width : Nat} (ecLsb : Nat) (w : BitVec width) : EcCode :=
  (w >>> ecLsb).setWidth 6

/-- `word_of(ec, rest) = (zext_W(ec) << EC_LSB) | rest` (R41, D22). -/
def wordOf {width : Nat} (ecLsb : Nat) (ec : EcCode) (rest : BitVec width) : BitVec width :=
  (ec.setWidth width <<< ecLsb) ||| rest

end Sys2Proof
end

