-- ==== Sys2Proof/WellFormed.lean ====
section
/-! DEFINITION. The checks on terms the spec constrains: a row used as a class (R33), a coprocessor access the source
names (R91), a code that fits six bits (R4), and the parameters (R41, R99). -/

namespace Sys2Proof

/-- A row that may be used as a class: any but the reserved ones (R33). -/
def Instr.wf (i : Instr) : Bool :=
  i.cls.isSome

/-- The (coprocessor, kind) pairs the source names (R16, R91). -/
def CoprocKind.namedFor : CoprocKind → CoprocNum → Bool
  | .mcrMrc, .cp15 | .mcrrMrrc, .cp15 => true
  | .mcrMrc, .cp14 | .ldcStc, .cp14 | .mcrrMrrc, .cp14 => true
  | .idRead _, .cp10 => true
  | _, _ => false

/-- A cause the source names. -/
def Cause.wf : Cause → Bool
  | .coprocAccess cp kind => kind.namedFor cp
  | _ => true

/-- A byte that holds a 6-bit value (R4). -/
def codeByteWf (b : Byte) : Bool :=
  decide (b.toNat < 64)

/-- The four call classes a disabled HVC or SMC is never reported with (R99). -/
def EcClass.isEnabledCall : EcClass → Bool
  | .hvc32 | .hvc64 | .smc32 | .smc64 => true
  | _ => false

/-- The implementation can record the class's code: without `HAS_A32_FP_TRAP` the value `0b101000` is never recorded
(R111). -/
def Params.canRecord (p : Params) (c : EcClass) : Bool :=
  p.hasA32FpTrap || decide (c ≠ .fpExc32)

/-- Parameters as the spec constrains them: the EC field lies inside the word (R41), and `disabled_call_class` is none
of the four classes of an HVC or SMC that is not disabled (R99) and not a class whose code is never recorded (R111).
(log 20) -/
def Params.wf (p : Params) : Bool :=
  decide (p.ecLsb + 6 ≤ p.wordWidth) &&
    match p.disabledCallClass with
    | none => true
    | some c => !c.isEnabledCall && p.canRecord c

end Sys2Proof
end

