-- ==== Sys2Proof/Machine/State.lean ====
section
/-! DEFINITION. The state as plain data (10_state.md), the reasons a step stops, and the state after reset
(70_reset_and_hazards.md R120, R121). -/

namespace Sys2Proof.Machine

/-- A recorded syndrome: the pair `(ec, iss)` (R8). The ISS is a number nothing reads inside; its width is
`ISS_WIDTH`. -/
structure Syndrome where
  ec : EcCode
  iss : Nat
deriving DecidableEq, Repr

/-- What the trap configuration in force says of the cause presented (R20, R21, D9, log 10). -/
structure TrapConfig where
  /-- The configurable traps, enables or disables make this WFE, WFI or register access trap. -/
  trapsCause : Bool
  /-- `hvc_disabled` (R99). -/
  hvcDisabled : Bool
  /-- `smc_disabled` (R99). -/
  smcDisabled : Bool
deriving DecidableEq, Repr

/-- One report of the containing machine: the cause and every input of `classify` (10_state.md R10 to R21). -/
structure Inputs where
  /-- The cause presented (R91). -/
  cause : Cause
  /-- The Execution state it arose in (R10). -/
  execState : ExecState
  /-- The Exception level it arose at (R11). -/
  fromEl : El
  /-- The level the exception is taken to (R11, R106). -/
  target : Target
  /-- `PSTATE.IL` (R12, D17). -/
  pstateIl : BitVec 1
  /-- `misaligned_pc` (R13). -/
  misalignedPc : Bool
  /-- `misaligned_sp` (R14). -/
  misalignedSp : Bool
  /-- The access checks the Stack Pointer's alignment (R14). -/
  spChecked : Bool
  /-- `misaligned_data` (R27). -/
  misalignedData : Bool
  /-- `uses_unknown(cause)` (R95, R97, log 9). -/
  usesUnknown : Bool
  /-- `uses_simd_fp(cause)` (R96, R97, log 9). -/
  usesSimdFp : Bool
  /-- `uses_wfx(cause)` (R97, log 9). -/
  usesWfx : Bool
  /-- The part of `trap_config` in force that concerns this cause (R20). -/
  trapConfig : TrapConfig
  /-- The CP14 register of an LDC or STC, where the containing machine carries it (R55, U7, log 21). -/
  ldcStcReg : Option Cp14Reg
  /-- `SErrorPending` (R102). -/
  sErrorPending : Bool
deriving DecidableEq, Repr

/-- What the environment asks of the PE with a report. -/
inductive Event where
  /-- The report's cause is presented, with others that arose at the same time (R91, R103). -/
  | causes (others : List Inputs)
  /-- A code supplied from outside is to be run on the report's cause (D7, log 1). -/
  | code (b : Byte)
  /-- A handler at a level reads that level's syndrome and dispatches on its EC (R113). -/
  | handlerRead (t : Target)
  /-- A handler is given a syndrome word from outside and dispatches on its EC (R41, R113; 95 section 3.4). -/
  | handlerWord (t : Target) (w : Nat)
  /-- The containing machine returns from an exception (R105, D12). -/
  | exceptionReturn
  /-- An instruction gave rise to no cause (95 section 3.1, step 1); the report's predicates are not consulted
  (DESIGN CHOICE, log 31). -/
  | noCause
deriving DecidableEq, Repr

/-- A report and what is asked with it. -/
structure Presentation where
  inputs : Inputs
  event : Event
deriving DecidableEq, Repr

/-- The machine. The three syndrome holders are the only state the spec's rules write (10_state.md). A holder's
`none` is the spec's own state 'unwritten' (R22, R120, log 6). -/
structure State where
  /-- The implementation's parameters; no step writes them (log 4). -/
  params : Params
  /-- `syndrome(EL1)` (R8, R9). -/
  syndromeEL1 : Option Syndrome
  /-- `syndrome(EL2)`; written only where `HAS_EL2` (R9). -/
  syndromeEL2 : Option Syndrome
  /-- `syndrome(EL3)`; written only where `HAS_EL3` (R9). -/
  syndromeEL3 : Option Syndrome
  /-- The containing machine's last report (log 8). -/
  inp : Inputs
  /-- The reports to come, oldest first (log 2). -/
  pending : List Presentation
  /-- The model's own: how many ISS values have been drawn (D8, log 7). -/
  issDraws : Nat
  /-- The model's own: the arm a handler's dispatch last reached, with the handler's level (R113, log 23). -/
  handled : Option (Target × EcClass)
deriving DecidableEq, Repr

/-- Why the machine stops with a fault. -/
inductive Fault where
  /-- Raised by a handler's read of a syndrome holder that nothing has written (R22, R113, U9). Safe: the spec itself
  makes it a fault and gives no value. -/
  | unwrittenSyndrome (t : Target)
deriving DecidableEq, Repr

/-- Why the model gives a step no meaning. Every refusal is safe: it makes claims about the case unprovable and lets
no false one through (R91). -/
inductive Refusal where
  /-- Raised by `exec` for a row without a meaning; no row is left without one. Safe. -/
  | notModelled (mnemonic : String)
  /-- Raised by a reserved row, and by a handler that meets a reserved code: no class, no behaviour (R33, D7, U1).
  Safe. -/
  | reservedCode (v : EcCode)
  /-- Raised by the step on bytes that are no code (R4, R39). Safe. -/
  | undecodable (e : DecodeError)
  /-- Raised where the cause arose above the target level (R92, U11). Safe. -/
  | fromAboveTarget
  /-- Raised where the cause arose in AArch32 state at the target level (R91, D18). Safe. -/
  | aarch32AtCurrentLevel
  /-- Raised where the class is not admitted from the Execution state (R94, U10). Safe. -/
  | stateNotAdmitted
  /-- Raised where the class is not marked for the target level (R93, U10). Safe. -/
  | targetNotAdmitted
  /-- Raised where `HAS_EL2` or `HAS_EL3` is false for the level named (R9, R93, D18). Safe. -/
  | levelAbsent (t : Target)
  /-- Raised where the target level does not run in AArch64 (R93, D18). Safe. -/
  | targetNotAArch64 (t : Target)
  /-- Raised by an arm whose cause requires the other Execution state (R91). Safe. -/
  | wrongExecState
  /-- Raised for a coprocessor access the source does not name (R91). Safe. -/
  | unnamedCoprocAccess
  /-- Raised where more than one exclusion predicate holds of one AArch64 system access (R97, U6). Safe. -/
  | exclusionsOverlap
  /-- Raised without `HAS_A32_FP_TRAP` for an AArch32 floating-point exception, and for a disabled call that would be
  reported with its class (R111, U4, log 20). Safe. -/
  | a32FpTrapAbsent
  /-- Raised by a row supplied from outside whose class is not that of the cause presented (log 30). Safe. -/
  | causeOfOtherRow
  /-- Raised where the presented cause's precondition is false, so that the cause does not exist (R12, R13, R14, R27,
  R102, log 11). Safe. -/
  | causeDoesNotExist
  /-- Raised by a WFE or WFI that nothing traps: it may wait without bound (R109, U12, log 27). Safe. -/
  | untrappedWait
  /-- Raised by a register access that nothing traps: the source gives it no semantics (R38, N4, log 27). Safe. -/
  | untrappedAccess
  /-- Raised by an LDC or STC to a CP14 register that is not one of the four (R55, U7, log 21). Safe. -/
  | unarchitectedCp14Use
  /-- Raised by a handler given a word whose class is not marked for its level (R113, log 23). Safe. -/
  | classWithoutHandlerArm
  /-- Raised by the step when nothing is presented (R121, R123, log 2). Safe. -/
  | awaitingPresentation
deriving DecidableEq, Repr

/-- The outcome of a step of this machine. -/
abbrev Result := Host.Outcome State Fault Refusal

/-- Inputs in which no condition holds. DESIGN CHOICE (log 8): the spec gives inputs no reset value (R22), and no step
reads these, since a step first takes in a report. -/
def Inputs.quiet : Inputs where
  cause := .unknownReason
  execState := .aarch64
  fromEl := .el0
  target := .el1
  pstateIl := 0#1
  misalignedPc := false
  misalignedSp := false
  spChecked := false
  misalignedData := false
  usesUnknown := false
  usesSimdFp := false
  usesWfx := false
  trapConfig := { trapsCause := false, hvcDisabled := false, smcDisabled := false }
  ldcStcReg := none
  sErrorPending := false

/-- After reset: every syndrome unwritten (R22, R120), no boot step and nothing presented (R121). The other values are
the model's (log 4, 5, 7, 8, 23). -/
def State.reset : State where
  params := Params.vectorDefaults
  syndromeEL1 := none
  syndromeEL2 := none
  syndromeEL3 := none
  inp := Inputs.quiet
  pending := []
  issDraws := 0
  handled := none

end Sys2Proof.Machine
end

