-- ==== Sys2Proof/Machine/Operands.lean ====
section
/-! DEFINITION. The attributes of the 35 classes, transcribed record by record (R2, R50 to R88), and the attributes read
from them: ISS format (R36) and page (R37). A row has no operand of its own; what it works on is the report. -/

namespace Sys2Proof.Machine

/-- A record of the source (R2): the nine lines, the `encoding:` line split into the format it names and its words.
The words are those of opcode_table.json, leaked page furniture cut (90_conflicts.md C5). -/
structure EcRecord where
  ec : EcCode
  aarch32 : Bool
  aarch64 : Bool
  el1 : Bool
  el2 : Bool
  el3 : Bool
  description : String
  issFormat : IssFormat
  issReference : String
  /-- The page of the ISS encoding: `n` for `D7-n` (R37). -/
  page : Nat
deriving DecidableEq, Repr

/-- The table (R50 to R59, R60 to R66, R70 to R78, R80 to R88). -/
def record : EcClass → EcRecord
  | .unknown =>
    { ec := 0b000000#6, aarch32 := false, aarch64 := true, el1 := true, el2 := true, el3 := true,
      description := "Unknown or Uncategorized Reason - generally used for exceptions as a result of erroneous execution.",
      issFormat := .unknown,
      issReference := "See ISS encoding for an exception with an unknown reason.",
      page := 1837 }
  | .wfx =>
    { ec := 0b000001#6, aarch32 := true, aarch64 := true, el1 := true, el2 := true, el3 := true,
      description := "Exceptions from WFE/WFI from either AArch32 or AArch64 as a result of configurable traps, enables, or disables.Conditional WFE and WFI instructions that fail their condition code check do not cause an exception.",
      issFormat := .wfx,
      issReference := "See ISS encoding for an exception from a WFI or WFE instruction.",
      page := 1837 }
  | .cp15McrMrc =>
    { ec := 0b000011#6, aarch32 := true, aarch64 := false, el1 := true, el2 := true, el3 := true,
      description := "Exceptions from MCR/MRC to CP15 from AArch32 as a result of configurable traps, enables, or disables that do not use code 0b000000.",
      issFormat := .mcrMrc,
      issReference := "See ISS encoding for an exception from an MCR or MRC access from AArch32 state",
      page := 1839 }
  | .cp15McrrMrrc =>
    { ec := 0b000100#6, aarch32 := true, aarch64 := false, el1 := true, el2 := true, el3 := true,
      description := "Exceptions from MCRR/MRRC to CP15 from AArch32 as a result of configurable traps, enables, or disables that do not use code 0b000000.",
      issFormat := .mcrrMrrc,
      issReference := "See ISS encoding for an exception from an MCRR or MRRC access from AArch32 state.",
      page := 1840 }
  | .cp14McrMrc =>
    { ec := 0b000101#6, aarch32 := true, aarch64 := false, el1 := true, el2 := true, el3 := true,
      description := "Exceptions from MCR/MRC to CP14 from AArch32 as a result of configurable traps, enables, or disables that do not use code 0b000000.",
      issFormat := .mcrMrc,
      issReference := "See ISS encoding for an exception from an MCR or MRC access from AArch32 state.",
      page := 1839 }
  | .cp14LdcStc =>
    { ec := 0b000110#6, aarch32 := true, aarch64 := false, el1 := true, el2 := true, el3 := true,
      description := "Exceptions from LDC/STC to CP14 from AArch32 as a result of configurable traps, enables, or disables. Note The only architected uses of these instructions to access CP14 are:• An STC to write to DBGDTRRX_EL0 or DBGDTRRXint.• An LDC to read from DBGDTRTX_EL0 or DBGDTRTXint.",
      issFormat := .ldcStc,
      issReference := "See ISS encoding for an exception from an LDC or STC access to CP14 from AArch32 state.",
      page := 1842 }
  | .simdFpAccess =>
    { ec := 0b000111#6, aarch32 := false, aarch64 := true, el1 := true, el2 := true, el3 := true,
      description := "Exceptions from access to Advanced SIMD or Floating Point as a result of configurable traps, enables, or disables.",
      issFormat := .simdFp,
      issReference := "See ISS encoding for an exception from an access to a SIMD or floating-point register.",
      page := 1844 }
  | .cp10Id =>
    { ec := 0b001000#6, aarch32 := true, aarch64 := false, el1 := false, el2 := true, el3 := false,
      description := "Exceptions from MRC (or VMRS) to CP10 for MVFR0, MVFR1, MVFR2, or FPSID of ID Group traps from AArch32 unless reported using code 0b000111.",
      issFormat := .mcrMrc,
      issReference := "See ISS encoding for an exception from an MCR or MRC access from AArch32 state.",
      page := 1839 }
  | .cp14McrrMrrc =>
    { ec := 0b001100#6, aarch32 := true, aarch64 := false, el1 := true, el2 := true, el3 := true,
      description := "Exceptions from MCRR/MRRC to CP14 from AArch32 as a result of configurable traps, enables, or disables.",
      issFormat := .mcrrMrrc,
      issReference := "See ISS encoding for an exception from an MCRR or MRRC access from AArch32 state.",
      page := 1840 }
  | .illegalState =>
    { ec := 0b001110#6, aarch32 := false, aarch64 := true, el1 := true, el2 := true, el3 := true,
      description := "Exceptions that occur because the value of PSTATE.IL is 1.",
      issFormat := .illegalPcSp,
      issReference := "See ISS encoding for an exception from an Illegal Execution state, PC alignment fault, or SP alignment fault.",
      page := 1845 }
  | .svc32 =>
    { ec := 0b010001#6, aarch32 := true, aarch64 := false, el1 := true, el2 := true, el3 := false,
      description := "SVC executed in AArch32.",
      issFormat := .hvcSvc,
      issReference := "See ISS encoding for an exception from HVC or SVC instruction execution.",
      page := 1845 }
  | .hvc32 =>
    { ec := 0b010010#6, aarch32 := true, aarch64 := false, el1 := false, el2 := true, el3 := false,
      description := "HVC that is not disabled executed in AArch32.",
      issFormat := .hvcSvc,
      issReference := "See ISS encoding for an exception from HVC or SVC instruction execution.",
      page := 1845 }
  | .smc32 =>
    { ec := 0b010011#6, aarch32 := true, aarch64 := false, el1 := false, el2 := true, el3 := true,
      description := "SMC that is not disabled executed in AArch32.",
      issFormat := .smc32,
      issReference := "See ISS encoding for an exception from SMC instruction execution in AArch32 state.",
      page := 1846 }
  | .svc64 =>
    { ec := 0b010101#6, aarch32 := false, aarch64 := true, el1 := true, el2 := true, el3 := true,
      description := "SVC executed in AArch64.",
      issFormat := .hvcSvc,
      issReference := "See ISS encoding for an exception from HVC or SVC instruction execution.",
      page := 1845 }
  | .hvc64 =>
    { ec := 0b010110#6, aarch32 := false, aarch64 := true, el1 := false, el2 := true, el3 := true,
      description := "HVC that is not disabled executed in AArch64.",
      issFormat := .hvcSvc,
      issReference := "See ISS encoding for an exception from HVC or SVC instruction execution.",
      page := 1845 }
  | .smc64 =>
    { ec := 0b010111#6, aarch32 := false, aarch64 := true, el1 := false, el2 := true, el3 := true,
      description := "SMC that is not disabled executed in AArch64.",
      issFormat := .smc64,
      issReference := "See ISS encoding for an exception from SMC instruction execution in AArch64 state.",
      page := 1846 }
  | .sys64 =>
    { ec := 0b011000#6, aarch32 := false, aarch64 := true, el1 := true, el2 := true, el3 := true,
      description := "Exceptions as a result of MSR, MRS, or System AArch64 instructions as a result of configurable traps, enables, or disables, except those using codes 0b000000, 0b000001, or 0b000111.",
      issFormat := .sys64,
      issReference := "See ISS encoding for an exception from MSR, MRS, or System instruction execution in AArch64 state.",
      page := 1847 }
  | .iabtLower =>
    { ec := 0b100000#6, aarch32 := false, aarch64 := true, el1 := true, el2 := true, el3 := true,
      description := "Instruction Abort that caused entry from a lower exception level (AArch32 or AArch64). Used for instruction access generated MMU faults and synchronous external aborts, including synchronous parity errors. Not used for debug related exceptions.",
      issFormat := .iabt,
      issReference := "See ISS encoding for an exception from an Instruction abort exception.",
      page := 1848 }
  | .iabtCurrent =>
    { ec := 0b100001#6, aarch32 := false, aarch64 := true, el1 := true, el2 := true, el3 := true,
      description := "Instruction Abort that caused entry from a current exception level (AArch64). Used for instruction access generated MMU faults and synchronous external aborts, including synchronous parity errors. Not used for debug related exceptions.",
      issFormat := .iabt,
      issReference := "See ISS encoding for an exception from an Instruction abort exception.",
      page := 1848 }
  | .pcAlign =>
    { ec := 0b100010#6, aarch32 := false, aarch64 := true, el1 := true, el2 := true, el3 := true,
      description := "PC Alignment Exception.",
      issFormat := .illegalPcSp,
      issReference := "See ISS encoding for an exception from an Illegal Execution state, PC alignment fault, or SP alignment fault.",
      page := 1845 }
  | .dabtLower =>
    { ec := 0b100100#6, aarch32 := true, aarch64 := true, el1 := true, el2 := true, el3 := true,
      description := "Data Abort that caused entry from a lower exception level (AArch32 or AArch64). Used for data access generated MMU faults, alignment faults other than those caused by the Stack Pointer misalignment, and synchronous external aborts, including synchronous parity errors. Not used for debug related exceptions.",
      issFormat := .dabt,
      issReference := "See ISS encoding for an exception from a Data abort exception.",
      page := 1849 }
  | .dabtCurrent =>
    { ec := 0b100101#6, aarch32 := false, aarch64 := true, el1 := true, el2 := true, el3 := true,
      description := "Data Abort that caused entry from a current exception level (AArch64). Used for data access generated MMU faults, alignment faults other than those caused by the Stack Pointer misalignment, and synchronous external aborts, including synchronous parity errors. Not used for debug related exceptions.",
      issFormat := .dabt,
      issReference := "See ISS encoding for an exception from a Data abort exception.",
      page := 1849 }
  | .spAlign =>
    { ec := 0b100110#6, aarch32 := false, aarch64 := true, el1 := true, el2 := true, el3 := true,
      description := "Stack Pointer Alignment Exception.",
      issFormat := .illegalPcSp,
      issReference := "See ISS encoding for an exception from an Illegal Execution state, PC alignment fault, or SP alignment fault.",
      page := 1845 }
  | .fpExc32 =>
    { ec := 0b101000#6, aarch32 := true, aarch64 := false, el1 := true, el2 := true, el3 := false,
      description := "Exceptions as a result of Floating-point exception (optional feature) from AArch32.",
      issFormat := .fpExc,
      issReference := "See ISS encoding for an exception from a floating-point exception.",
      page := 1852 }
  | .fpExc64 =>
    { ec := 0b101100#6, aarch32 := false, aarch64 := true, el1 := true, el2 := true, el3 := true,
      description := "Exceptions as a result of Floating-point exception from AArch64.",
      issFormat := .fpExc,
      issReference := "See ISS encoding for an exception from a floating-point exception.",
      page := 1852 }
  | .serror =>
    { ec := 0b101111#6, aarch32 := false, aarch64 := true, el1 := true, el2 := true, el3 := true,
      description := "SError Interrupt.",
      issFormat := .serror,
      issReference := "See ISS encoding for an SError interrupt.",
      page := 1854 }
  | .breakpointLower =>
    { ec := 0b110000#6, aarch32 := false, aarch64 := true, el1 := true, el2 := true, el3 := false,
      description := "Breakpoint debug event that caused entry from a lower exception level.",
      issFormat := .breakpointVcatch,
      issReference := "See ISS encoding for a Breakpoint exception or Vector Catch exception.",
      page := 1854 }
  | .breakpointCurrent =>
    { ec := 0b110001#6, aarch32 := false, aarch64 := true, el1 := true, el2 := true, el3 := false,
      description := "Breakpoint debug event that caused entry from a current exception level.",
      issFormat := .breakpointVcatch,
      issReference := "See ISS encoding for a Breakpoint exception or Vector Catch exception.",
      page := 1854 }
  | .softstepLower =>
    { ec := 0b110010#6, aarch32 := false, aarch64 := true, el1 := true, el2 := true, el3 := false,
      description := "Software step debug event that caused entry from a lower exception level.",
      issFormat := .softstep,
      issReference := "See ISS encoding for Software Step exception.",
      page := 1857 }
  | .softstepCurrent =>
    { ec := 0b110011#6, aarch32 := false, aarch64 := true, el1 := true, el2 := true, el3 := false,
      description := "Software step debug event that caused entry from a current exception level.",
      issFormat := .softstep,
      issReference := "See ISS encoding for Software Step exception.",
      page := 1857 }
  | .watchpointLower =>
    { ec := 0b110100#6, aarch32 := false, aarch64 := true, el1 := true, el2 := true, el3 := false,
      description := "Watchpoint debug event that caused entry from a lower exception level.",
      issFormat := .watchpoint,
      issReference := "See ISS encoding for a Watchpoint exception.",
      page := 1855 }
  | .watchpointCurrent =>
    { ec := 0b110101#6, aarch32 := false, aarch64 := true, el1 := true, el2 := true, el3 := false,
      description := "Watchpoint debug event that caused entry from a current exception level.",
      issFormat := .watchpoint,
      issReference := "See ISS encoding for a Watchpoint exception.",
      page := 1855 }
  | .bkpt32 =>
    { ec := 0b111000#6, aarch32 := true, aarch64 := false, el1 := true, el2 := true, el3 := false,
      description := "BKPT instruction executed in AArch32 state.",
      issFormat := .swBreakpoint,
      issReference := "See ISS encoding for a Software Breakpoint Instruction exception.",
      page := 1858 }
  | .vectorCatch32 =>
    { ec := 0b111010#6, aarch32 := false, aarch64 := true, el1 := false, el2 := true, el3 := false,
      description := "AArch32 state Vector catch debug event.",
      issFormat := .breakpointVcatch,
      issReference := "See ISS encoding for a Breakpoint exception or Vector Catch exception.",
      page := 1854 }
  | .brk64 =>
    { ec := 0b111100#6, aarch32 := false, aarch64 := true, el1 := true, el2 := true, el3 := true,
      description := "BRK instruction executed in AArch64 state.",
      issFormat := .swBreakpoint,
      issReference := "See ISS encoding for a Software Breakpoint Instruction exception.",
      page := 1858 }

/-- `iss_format(c)` (R36). -/
def issFormat (c : EcClass) : IssFormat :=
  (record c).issFormat

/-- The page of an ISS format, `n` for `D7-n` (R37). -/
def pageOf : IssFormat → Nat
  | .unknown => 1837
  | .wfx => 1837
  | .mcrMrc => 1839
  | .mcrrMrrc => 1840
  | .ldcStc => 1842
  | .simdFp => 1844
  | .illegalPcSp => 1845
  | .hvcSvc => 1845
  | .smc32 => 1846
  | .smc64 => 1846
  | .sys64 => 1847
  | .iabt => 1848
  | .dabt => 1849
  | .fpExc => 1852
  | .serror => 1854
  | .breakpointVcatch => 1854
  | .softstep => 1857
  | .watchpoint => 1855
  | .swBreakpoint => 1858

end Sys2Proof.Machine
end

