-- ==== Sys2Proof/Machine/Flags.lean ====
section
/-! DEFINITION. The five printed flags and what is computed from them: `from_ok` (R94), `target_ok` (R93), and the
admission check every row ends with. No class writes a status flag (the 'Flags written: none' of R50 to R88). -/

namespace Sys2Proof.Machine

/-- `flag_A32` and `flag_A64`, as printed (R34). -/
def stateFlag (c : EcClass) : ExecState → Bool
  | .aarch32 => (record c).aarch32
  | .aarch64 => (record c).aarch64

/-- `flag_EL1`, `flag_EL2`, `flag_EL3`, as printed (R35). -/
def targetFlag (c : EcClass) : Target → Bool
  | .el1 => (record c).el1
  | .el2 => (record c).el2
  | .el3 => (record c).el3

/-- The four classes a description admits from AArch32 against the printed flag (R94; 90_conflicts.md C1 to C4). -/
def admittedFromAArch32ByWords : EcClass → Bool
  | .iabtLower => true
  | .vectorCatch32 => true
  | .simdFpAccess => true
  | .unknown => true
  | _ => false

/-- `from_ok(c, s)` (R94). -/
def fromOk (c : EcClass) (s : ExecState) : Bool :=
  stateFlag c s || (decide (s = .aarch32) && admittedFromAArch32ByWords c)

/-- A level the implementation has (R9, D18). -/
def levelPresent (p : Params) : Target → Bool
  | .el1 => true
  | .el2 => p.hasEL2
  | .el3 => p.hasEL3

/-- `TARGET_USES_AARCH64(t)` (D18). -/
def targetUsesAArch64 (p : Params) : Target → Bool
  | .el1 => p.el1UsesAArch64
  | .el2 => p.el2UsesAArch64
  | .el3 => p.el3UsesAArch64

/-- `target_ok(c, t)` (R93). -/
def targetOk (p : Params) (c : EcClass) (t : Target) : Bool :=
  targetFlag c t && levelPresent p t && targetUsesAArch64 p t

/-- The checks of R91 on the class an arm yields, `from_ok` first; the reason of the one that fails, if any. -/
def admission (p : Params) (c : EcClass) (s : ExecState) (t : Target) : Option Refusal :=
  if fromOk c s = false then some .stateNotAdmitted
  else if targetFlag c t = false then some .targetNotAdmitted
  else if levelPresent p t = false then some (.levelAbsent t)
  else if targetUsesAArch64 p t = false then some (.targetNotAArch64 t)
  else none

end Sys2Proof.Machine
end

