-- ==== Sys2Proof/Machine/Ops.lean ====
section
/-! DEFINITION. The named operations: the syndrome holders, the relation of levels, taking an exception and returning
from one, the frame every row's arm runs in, and a handler's read. -/

namespace Sys2Proof.Machine

/-- `syndrome(t)` (R9). -/
def State.holder (s : State) : Target → Option Syndrome
  | .el1 => s.syndromeEL1
  | .el2 => s.syndromeEL2
  | .el3 => s.syndromeEL3

/-- `syndrome(t) <- (ec, iss)`: both components at once, the other levels' holders untouched (R8, R90, D2, log 16). -/
def State.setHolder (s : State) (t : Target) (y : Syndrome) : State :=
  match t with
  | .el1 => { s with syndromeEL1 := some y }
  | .el2 => { s with syndromeEL2 := some y }
  | .el3 => { s with syndromeEL3 := some y }

/-- One more ISS drawn (D8, log 7). -/
def State.countDraw (s : State) : State :=
  { s with issDraws := s.issDraws + 1 }

/-- A handler at `t` reached the arm of `c` (R113, log 23). -/
def State.setHandled (s : State) (t : Target) (c : EcClass) : State :=
  { s with handled := some (t, c) }

/-- The place of a level in the order EL0 < EL1 < EL2 < EL3 (R11, D5). -/
def elRank : El → Nat
  | .el0 => 0
  | .el1 => 1
  | .el2 => 2
  | .el3 => 3

/-- The place of a target level in the same order. -/
def targetRank : Target → Nat
  | .el1 => 1
  | .el2 => 2
  | .el3 => 3

/-- `relation(from_el, target)`; `none` is the refusal of R92. -/
def relation (fromEl : El) (target : Target) : Option Relation :=
  if elRank fromEl < targetRank target then some .lower
  else if elRank fromEl = targetRank target then some .current
  else none

/-- The first two lines of `classify`: the relation, and no AArch32 at the current level (R91, R92, D18, log 15). -/
def checkedRelation (inp : Inputs) : Except Refusal Relation :=
  match relation inp.fromEl inp.target with
  | none => .error .fromAboveTarget
  | some .lower => .ok .lower
  | some .current =>
    if inp.execState = .aarch32 then .error .aarch32AtCurrentLevel else .ok .current

/-- Whether the presented cause exists: `none` if it does, else why the model gives it no meaning. The preconditions of
R12, R13, R14, R27, R102; the traps of R51 to R58, R66 and R109; the register of R55 and U7. A WFE or WFI that fails
its condition check needs no trap (R98). (log 11, 21, 27) -/
def causeStop (inp : Inputs) : Option Refusal :=
  let trapped := inp.trapConfig.trapsCause
  match inp.cause with
  | .wfx _ condPassed => if condPassed && !trapped then some .untrappedWait else none
  | .coprocAccess .cp14 .ldcStc =>
    if !trapped then some .untrappedAccess
    else if inp.ldcStcReg = some .other then some .unarchitectedCp14Use
    else none
  | .coprocAccess _ _ | .simdFpAccess | .sysAccess64 => if !trapped then some .untrappedAccess else none
  | .illegalExecutionState => if inp.pstateIl = 1#1 then none else some .causeDoesNotExist
  | .pcAlignment => if inp.misalignedPc then none else some .causeDoesNotExist
  | .spAlignment => if inp.misalignedSp && inp.spChecked then none else some .causeDoesNotExist
  | .dataAbort .alignmentFault => if inp.misalignedData then none else some .causeDoesNotExist
  | .sError => if inp.sErrorPending then none else some .causeDoesNotExist
  | .unknownReason | .svc | .hvc | .smc | .bkpt | .brk => none
  | .instructionAbort _ | .dataAbort _ | .fpException => none
  | .breakpoint | .softwareStep | .watchpoint | .vectorCatch => none

/-- The ISS of the next exception: a fresh free value of `ISS_WIDTH` bits (R8, R90, D8, log 7). -/
def drawIss (fmt : IssFormat) (s : State) : Nat :=
  Config.issOf s.issDraws fmt s.inp.cause % 2 ^ s.params.issWidth

/-- `raise Exception(ec, iss, target)` (R90): the syndrome of the target level is written, and nothing else the spec's
rules own. What else an entry does is `take_exception` of the containing machine, OPEN (R104, D11, log 17). -/
def raiseException (ec : EcCode) (fmt : IssFormat) (s : State) : State :=
  (s.setHolder s.inp.target { ec := ec, iss := drawIss fmt s }).countDraw

/-- Taking an exception of a class (R90): its code, and an ISS in the format it names. -/
def takeException (c : EcClass) (s : State) : State :=
  raiseException (encodeEc c) (issFormat c) s

/-- `exception_return`: OPEN, except that nothing but R90 changes a syndrome (R105, D12, log 17). -/
def exceptionReturn (s : State) : State :=
  s

/-- What the arm of a cause yields: a class, `NoException`, or a refusal (R91). -/
inductive Arm where
  | cls (c : EcClass)
  | noException
  | refuse (r : Refusal)
deriving DecidableEq, Repr

/-- R91's `require`: one that fails refuses. -/
def require (b : Bool) (r : Refusal) (a : Arm) : Arm :=
  if b then a else .refuse r

/-- What a disabled HVC or SMC gives: `disabled_call_class` (R99), refused where it is the class R111 has never recorded
(log 20). -/
def disabledCall (p : Params) : Arm :=
  match p.disabledCallClass with
  | none => .noException
  | some c => require (p.canRecord c) .a32FpTrapAbsent (.cls c)

/-- At most one of three predicates holds (R97). -/
def atMostOne (a b c : Bool) : Bool :=
  !(a && b) && !(a && c) && !(b && c)

/-- The end of every rule's pseudocode: refuse if `from_ok` or `target_ok` fails, else take the exception (R50 to
R88). -/
def reportClass (c : EcClass) (s : State) : Result :=
  match admission s.params c s.inp.execState s.inp.target with
  | some r => .refused r
  | none => .next (takeException c s)

/-- The frame a row's arm runs in (R91): the relation, whether the cause exists, the arm, the report. `NoException`
writes no syndrome (R98). -/
def runArm (arm : Relation → Arm) (s : State) : Result :=
  match checkedRelation s.inp with
  | .error r => .refused r
  | .ok rel =>
    match causeStop s.inp with
    | some r => .refused r
    | none =>
      match arm rel with
      | .refuse r => .refused r
      | .noException => .next s
      | .cls c => reportClass c s

/-- A handler at `t` dispatches on an EC (R113): the arm of the class if the class is marked for its level, refusal on
a reserved value (R33). -/
def handlerDispatch (t : Target) (ec : EcCode) (s : State) : Result :=
  match decodeEc ec with
  | .reserved v => .refused (.reservedCode v)
  | .allocated c =>
    if targetOk s.params c t then .next (s.setHandled t c)
    else .refused .classWithoutHandlerArm

/-- A handler at `t` reads `syndrome(t)` and dispatches. Reading an unwritten holder is the fault that the spec itself
states, and R120 has the model take no value for it (R22, R113, R120, R122 (b), D16, U9). -/
def handlerRead (t : Target) (s : State) : Result :=
  if levelPresent s.params t = false then .refused (.levelAbsent t)
  else
    match s.holder t with
    | none => .fault (.unwrittenSyndrome t)
    | some y => handlerDispatch t y.ec s

/-- A handler at `t` is given a syndrome word from outside (R41, R113). -/
def handlerWord (t : Target) (w : Nat) (s : State) : Result :=
  if levelPresent s.params t = false then .refused (.levelAbsent t)
  else handlerDispatch t (ecOfWord s.params.ecLsb (BitVec.ofNat s.params.wordWidth w)) s

/-- A recorded syndrome seen as a word (R41, D22, log 25). -/
def syndromeWord (p : Params) (y : Syndrome) : BitVec p.wordWidth :=
  wordOf p.ecLsb y.ec (BitVec.ofNat p.wordWidth y.iss)

/-- Of causes that arise at once, the one `priority` has presented (R103, D21, log 19). -/
def selectByPriority (first : Inputs) (others : List Inputs) : Inputs :=
  others.foldl (fun best next => if Config.priority next.cause best.cause then next else best) first

end Sys2Proof.Machine
end

