-- ==== Sys2Proof/Machine/Classify.lean ====
section
/-! DEFINITION. `classify` (60_exceptions.md R91), whole, and the row whose arm a cause takes. -/

namespace Sys2Proof.Machine

/-- The `case` of R91: the arm of the cause. -/
def causeArm (p : Params) (inp : Inputs) (rel : Relation) : Arm :=
  let a32 := decide (inp.execState = .aarch32)
  let a64 := decide (inp.execState = .aarch64)
  match inp.cause with
  | .unknownReason => .cls .unknown
  | .wfx _ condPassed => if condPassed then .cls .wfx else .noException
  | .coprocAccess .cp15 .mcrMrc =>
    require a32 .wrongExecState (if inp.usesUnknown then .cls .unknown else .cls .cp15McrMrc)
  | .coprocAccess .cp15 .mcrrMrrc =>
    require a32 .wrongExecState (if inp.usesUnknown then .cls .unknown else .cls .cp15McrrMrrc)
  | .coprocAccess .cp14 .mcrMrc =>
    require a32 .wrongExecState (if inp.usesUnknown then .cls .unknown else .cls .cp14McrMrc)
  | .coprocAccess .cp14 .ldcStc => require a32 .wrongExecState (.cls .cp14LdcStc)
  | .coprocAccess .cp14 .mcrrMrrc => require a32 .wrongExecState (.cls .cp14McrrMrrc)
  | .coprocAccess .cp10 (.idRead _) =>
    require a32 .wrongExecState (if inp.usesSimdFp then .cls .simdFpAccess else .cls .cp10Id)
  | .coprocAccess _ _ => .refuse .unnamedCoprocAccess
  | .simdFpAccess => .cls .simdFpAccess
  | .illegalExecutionState => .cls .illegalState
  | .svc => if a32 then .cls .svc32 else .cls .svc64
  | .hvc =>
    if inp.trapConfig.hvcDisabled then disabledCall p else if a32 then .cls .hvc32 else .cls .hvc64
  | .smc =>
    if inp.trapConfig.smcDisabled then disabledCall p else if a32 then .cls .smc32 else .cls .smc64
  | .sysAccess64 =>
    require a64 .wrongExecState
      (require (atMostOne inp.usesUnknown inp.usesWfx inp.usesSimdFp) .exclusionsOverlap
        (if inp.usesUnknown then .cls .unknown
          else if inp.usesWfx then .cls .wfx
          else if inp.usesSimdFp then .cls .simdFpAccess
          else .cls .sys64))
  | .instructionAbort _ => if rel = .lower then .cls .iabtLower else .cls .iabtCurrent
  | .pcAlignment => .cls .pcAlign
  | .dataAbort _ => if rel = .lower then .cls .dabtLower else .cls .dabtCurrent
  | .spAlignment => .cls .spAlign
  | .fpException =>
    if a32 then require p.hasA32FpTrap .a32FpTrapAbsent (.cls .fpExc32) else .cls .fpExc64
  | .sError => .cls .serror
  | .breakpoint => if rel = .lower then .cls .breakpointLower else .cls .breakpointCurrent
  | .softwareStep => if rel = .lower then .cls .softstepLower else .cls .softstepCurrent
  | .watchpoint => if rel = .lower then .cls .watchpointLower else .cls .watchpointCurrent
  | .bkpt => require a32 .wrongExecState (.cls .bkpt32)
  | .vectorCatch => .cls .vectorCatch32
  | .brk => require a64 .wrongExecState (.cls .brk64)

/-- `classify(cause, s, from_el, target)` (R91): relation, arm, `from_ok`, `target_ok`. -/
def classify (p : Params) (inp : Inputs) : Arm :=
  match checkedRelation inp with
  | .error r => .refuse r
  | .ok rel =>
    match causeArm p inp rel with
    | .refuse r => .refuse r
    | .noException => .noException
    | .cls c =>
      match admission p c inp.execState inp.target with
      | some r => .refuse r
      | none => .cls c

/-- The row whose rule names the cause as its own (the 'Cause constructor' of R50 to R88). -/
def selectRow (inp : Inputs) (rel : Relation) : Except Refusal Instr :=
  let a32 := decide (inp.execState = .aarch32)
  match inp.cause with
  | .unknownReason => .ok .ecUnknown
  | .wfx _ _ => .ok .ecWfx
  | .coprocAccess .cp15 .mcrMrc => .ok .ecCp15McrMrc
  | .coprocAccess .cp15 .mcrrMrrc => .ok .ecCp15McrrMrrc
  | .coprocAccess .cp14 .mcrMrc => .ok .ecCp14McrMrc
  | .coprocAccess .cp14 .ldcStc => .ok .ecCp14LdcStc
  | .coprocAccess .cp14 .mcrrMrrc => .ok .ecCp14McrrMrrc
  | .coprocAccess .cp10 (.idRead _) => .ok .ecCp10Id
  | .coprocAccess _ _ => .error .unnamedCoprocAccess
  | .simdFpAccess => .ok .ecSimdFpAccess
  | .illegalExecutionState => .ok .ecIllegalState
  | .svc => .ok (if a32 then .ecSvc32 else .ecSvc64)
  | .hvc => .ok (if a32 then .ecHvc32 else .ecHvc64)
  | .smc => .ok (if a32 then .ecSmc32 else .ecSmc64)
  | .sysAccess64 => .ok .ecSys64
  | .instructionAbort _ => .ok (if rel = .lower then .ecIabtLower else .ecIabtCurrent)
  | .pcAlignment => .ok .ecPcAlign
  | .dataAbort _ => .ok (if rel = .lower then .ecDabtLower else .ecDabtCurrent)
  | .spAlignment => .ok .ecSpAlign
  | .fpException => .ok (if a32 then .ecFpExc32 else .ecFpExc64)
  | .sError => .ok .ecSerror
  | .breakpoint => .ok (if rel = .lower then .ecBreakpointLower else .ecBreakpointCurrent)
  | .softwareStep => .ok (if rel = .lower then .ecSoftstepLower else .ecSoftstepCurrent)
  | .watchpoint => .ok (if rel = .lower then .ecWatchpointLower else .ecWatchpointCurrent)
  | .bkpt => .ok .ecBkpt32
  | .vectorCatch => .ok .ecVectorCatch32
  | .brk => .ok .ecBrk64

/-- The arm of a row for a cause that is not the row's own: the row's class if R91 diverts the cause to it (the
'also the result of' of R50, R51, R56, and R99), else refused (log 30). -/
def divertedTo (c : EcClass) (s : State) (rel : Relation) : Arm :=
  match causeArm s.params s.inp rel with
  | .cls c' => if c' = c then .cls c else .refuse .causeOfOtherRow
  | _ => .refuse .causeOfOtherRow

end Sys2Proof.Machine
end

