-- ==== Sys2Proof/Machine/Aborts.lean ====
section
/-! DEFINITION. The EC values 0b10xxxx (42_ec_10xxxx_aborts_fp_serror.md R70 to R78): aborts, PC and SP alignment,
floating-point exceptions, SError. Each row runs its rule's pseudocode on the report: its own arm, and for any other cause
the row's class only where R91 diverts the cause to it. -/

namespace Sys2Proof.Machine

/-- `EC_IABT_LOWER`, R70: an Instruction Abort from a lower level, whatever the fault kind. -/
def execEcIabtLower (s : State) : Result :=
  runArm (fun rel =>
    match s.inp.cause, rel with
    | .instructionAbort _, .lower => .cls .iabtLower
    | _, _ => divertedTo .iabtLower s rel) s

/-- `EC_IABT_CURRENT`, R71: an Instruction Abort from the current level, whatever the fault kind. -/
def execEcIabtCurrent (s : State) : Result :=
  runArm (fun rel =>
    match s.inp.cause, rel with
    | .instructionAbort _, .current => .cls .iabtCurrent
    | _, _ => divertedTo .iabtCurrent s rel) s

/-- `EC_PC_ALIGN`, R72: a misaligned PC, for either relation. -/
def execEcPcAlign (s : State) : Result :=
  runArm (fun rel =>
    match s.inp.cause with
    | .pcAlignment => .cls .pcAlign
    | _ => divertedTo .pcAlign s rel) s

/-- `EC_DABT_LOWER`, R73: a Data Abort from a lower level, whatever the fault kind. -/
def execEcDabtLower (s : State) : Result :=
  runArm (fun rel =>
    match s.inp.cause, rel with
    | .dataAbort _, .lower => .cls .dabtLower
    | _, _ => divertedTo .dabtLower s rel) s

/-- `EC_DABT_CURRENT`, R74: a Data Abort from the current level, whatever the fault kind. -/
def execEcDabtCurrent (s : State) : Result :=
  runArm (fun rel =>
    match s.inp.cause, rel with
    | .dataAbort _, .current => .cls .dabtCurrent
    | _, _ => divertedTo .dabtCurrent s rel) s

/-- `EC_SP_ALIGN`, R75: a misaligned Stack Pointer, never a Data Abort (R100). -/
def execEcSpAlign (s : State) : Result :=
  runArm (fun rel =>
    match s.inp.cause with
    | .spAlignment => .cls .spAlign
    | _ => divertedTo .spAlign s rel) s

/-- `EC_FP_EXC32`, R76: a floating-point exception from AArch32, an optional feature (R111). -/
def execEcFpExc32 (s : State) : Result :=
  runArm (fun rel =>
    match s.inp.cause, s.inp.execState with
    | .fpException, .aarch32 => require s.params.hasA32FpTrap .a32FpTrapAbsent (.cls .fpExc32)
    | _, _ => divertedTo .fpExc32 s rel) s

/-- `EC_FP_EXC64`, R77: a floating-point exception from AArch64. -/
def execEcFpExc64 (s : State) : Result :=
  runArm (fun rel =>
    match s.inp.cause, s.inp.execState with
    | .fpException, .aarch64 => .cls .fpExc64
    | _, _ => divertedTo .fpExc64 s rel) s

/-- `EC_SERROR`, R78: the SError interrupt, an environment input (R102). -/
def execEcSerror (s : State) : Result :=
  runArm (fun rel =>
    match s.inp.cause with
    | .sError => .cls .serror
    | _ => divertedTo .serror s rel) s

end Sys2Proof.Machine
end

