-- ==== Sys2Proof/Machine/Calls.lean ====
section
/-! DEFINITION. The EC values 0b01xxxx (41_ec_01xxxx_calls_sysreg.md R60 to R66): SVC, HVC, SMC, and trapped AArch64
system instructions. Each row runs its rule's pseudocode on the report: its own arm, and for any other cause
the row's class only where R91 diverts the cause to it. -/

namespace Sys2Proof.Machine

/-- `EC_SVC32`, R60: an SVC executed in AArch32. -/
def execEcSvc32 (s : State) : Result :=
  runArm (fun rel =>
    match s.inp.cause, s.inp.execState with
    | .svc, .aarch32 => .cls .svc32
    | _, _ => divertedTo .svc32 s rel) s

/-- `EC_HVC32`, R61: an HVC executed in AArch32; a disabled one gives `disabled_call_class` (R99). -/
def execEcHvc32 (s : State) : Result :=
  runArm (fun rel =>
    match s.inp.cause, s.inp.execState with
    | .hvc, .aarch32 =>
      if s.inp.trapConfig.hvcDisabled then disabledCall s.params else .cls .hvc32
    | _, _ => divertedTo .hvc32 s rel) s

/-- `EC_SMC32`, R62: an SMC executed in AArch32; a disabled one gives `disabled_call_class` (R99). -/
def execEcSmc32 (s : State) : Result :=
  runArm (fun rel =>
    match s.inp.cause, s.inp.execState with
    | .smc, .aarch32 =>
      if s.inp.trapConfig.smcDisabled then disabledCall s.params else .cls .smc32
    | _, _ => divertedTo .smc32 s rel) s

/-- `EC_SVC64`, R63: an SVC executed in AArch64. -/
def execEcSvc64 (s : State) : Result :=
  runArm (fun rel =>
    match s.inp.cause, s.inp.execState with
    | .svc, .aarch64 => .cls .svc64
    | _, _ => divertedTo .svc64 s rel) s

/-- `EC_HVC64`, R64: an HVC executed in AArch64; a disabled one gives `disabled_call_class` (R99). -/
def execEcHvc64 (s : State) : Result :=
  runArm (fun rel =>
    match s.inp.cause, s.inp.execState with
    | .hvc, .aarch64 =>
      if s.inp.trapConfig.hvcDisabled then disabledCall s.params else .cls .hvc64
    | _, _ => divertedTo .hvc64 s rel) s

/-- `EC_SMC64`, R65: an SMC executed in AArch64; a disabled one gives `disabled_call_class` (R99). -/
def execEcSmc64 (s : State) : Result :=
  runArm (fun rel =>
    match s.inp.cause, s.inp.execState with
    | .smc, .aarch64 =>
      if s.inp.trapConfig.smcDisabled then disabledCall s.params else .cls .smc64
    | _, _ => divertedTo .smc64 s rel) s

/-- `EC_SYS64`, R66: a trapped AArch64 MSR, MRS or System instruction, with its three diversions (R97). -/
def execEcSys64 (s : State) : Result :=
  runArm (fun rel =>
    match s.inp.cause with
    | .sysAccess64 =>
      require (decide (s.inp.execState = .aarch64)) .wrongExecState
      (require (atMostOne s.inp.usesUnknown s.inp.usesWfx s.inp.usesSimdFp) .exclusionsOverlap
        (if s.inp.usesUnknown then .cls .unknown
          else if s.inp.usesWfx then .cls .wfx
          else if s.inp.usesSimdFp then .cls .simdFpAccess
          else .cls .sys64))
    | _ => divertedTo .sys64 s rel) s

end Sys2Proof.Machine
end

