-- ==== Sys2Proof/Machine/Debug.lean ====
section
/-! DEFINITION. The EC values 0b11xxxx (43_ec_11xxxx_debug.md R80 to R88): debug events and software breakpoint
instructions. Each row runs its rule's pseudocode on the report: its own arm, and for any other cause
the row's class only where R91 diverts the cause to it. -/

namespace Sys2Proof.Machine

/-- `EC_BREAKPOINT_LOWER`, R80: a Breakpoint debug event from a lower level. -/
def execEcBreakpointLower (s : State) : Result :=
  runArm (fun rel =>
    match s.inp.cause, rel with
    | .breakpoint, .lower => .cls .breakpointLower
    | _, _ => divertedTo .breakpointLower s rel) s

/-- `EC_BREAKPOINT_CURRENT`, R81: a Breakpoint debug event from the current level. -/
def execEcBreakpointCurrent (s : State) : Result :=
  runArm (fun rel =>
    match s.inp.cause, rel with
    | .breakpoint, .current => .cls .breakpointCurrent
    | _, _ => divertedTo .breakpointCurrent s rel) s

/-- `EC_SOFTSTEP_LOWER`, R82: a Software step debug event from a lower level. -/
def execEcSoftstepLower (s : State) : Result :=
  runArm (fun rel =>
    match s.inp.cause, rel with
    | .softwareStep, .lower => .cls .softstepLower
    | _, _ => divertedTo .softstepLower s rel) s

/-- `EC_SOFTSTEP_CURRENT`, R83: a Software step debug event from the current level. -/
def execEcSoftstepCurrent (s : State) : Result :=
  runArm (fun rel =>
    match s.inp.cause, rel with
    | .softwareStep, .current => .cls .softstepCurrent
    | _, _ => divertedTo .softstepCurrent s rel) s

/-- `EC_WATCHPOINT_LOWER`, R84: a Watchpoint debug event from a lower level. -/
def execEcWatchpointLower (s : State) : Result :=
  runArm (fun rel =>
    match s.inp.cause, rel with
    | .watchpoint, .lower => .cls .watchpointLower
    | _, _ => divertedTo .watchpointLower s rel) s

/-- `EC_WATCHPOINT_CURRENT`, R85: a Watchpoint debug event from the current level. -/
def execEcWatchpointCurrent (s : State) : Result :=
  runArm (fun rel =>
    match s.inp.cause, rel with
    | .watchpoint, .current => .cls .watchpointCurrent
    | _, _ => divertedTo .watchpointCurrent s rel) s

/-- `EC_BKPT32`, R86: a BKPT executed in AArch32 state. -/
def execEcBkpt32 (s : State) : Result :=
  runArm (fun rel =>
    match s.inp.cause with
    | .bkpt =>
      require (decide (s.inp.execState = .aarch32)) .wrongExecState
      (.cls .bkpt32)
    | _ => divertedTo .bkpt32 s rel) s

/-- `EC_VECTOR_CATCH32`, R87: an AArch32 state Vector catch debug event, admitted from either state (C2). -/
def execEcVectorCatch32 (s : State) : Result :=
  runArm (fun rel =>
    match s.inp.cause with
    | .vectorCatch => .cls .vectorCatch32
    | _ => divertedTo .vectorCatch32 s rel) s

/-- `EC_BRK64`, R88: a BRK executed in AArch64 state. -/
def execEcBrk64 (s : State) : Result :=
  runArm (fun rel =>
    match s.inp.cause with
    | .brk =>
      require (decide (s.inp.execState = .aarch64)) .wrongExecState
      (.cls .brk64)
    | _ => divertedTo .brk64 s rel) s

end Sys2Proof.Machine
end

