-- ==== Sys2Proof/Machine/Reserved.lean ====
section
/-! DEFINITION. The 29 reserved values: "Other values are reserved." (R33). The spec gives them no behaviour and has a
model refuse any use of one as a class (D7, U1, log 26). -/

namespace Sys2Proof.Machine

/-- A reserved value used as a class is refused (R33, D7). -/
def refuseReserved (v : EcCode) : Result :=
  .refused (.reservedCode v)

/-- `RESERVED_02`: the value `0b000010` is reserved (R33). -/
def execReserved02 (_ : State) : Result :=
  refuseReserved 0b000010#6

/-- `RESERVED_09`: the value `0b001001` is reserved (R33). -/
def execReserved09 (_ : State) : Result :=
  refuseReserved 0b001001#6

/-- `RESERVED_0A`: the value `0b001010` is reserved (R33). -/
def execReserved0A (_ : State) : Result :=
  refuseReserved 0b001010#6

/-- `RESERVED_0B`: the value `0b001011` is reserved (R33). -/
def execReserved0B (_ : State) : Result :=
  refuseReserved 0b001011#6

/-- `RESERVED_0D`: the value `0b001101` is reserved (R33). -/
def execReserved0D (_ : State) : Result :=
  refuseReserved 0b001101#6

/-- `RESERVED_0F`: the value `0b001111` is reserved (R33). -/
def execReserved0F (_ : State) : Result :=
  refuseReserved 0b001111#6

/-- `RESERVED_10`: the value `0b010000` is reserved (R33). -/
def execReserved10 (_ : State) : Result :=
  refuseReserved 0b010000#6

/-- `RESERVED_14`: the value `0b010100` is reserved (R33). -/
def execReserved14 (_ : State) : Result :=
  refuseReserved 0b010100#6

/-- `RESERVED_19`: the value `0b011001` is reserved (R33). -/
def execReserved19 (_ : State) : Result :=
  refuseReserved 0b011001#6

/-- `RESERVED_1A`: the value `0b011010` is reserved (R33). -/
def execReserved1A (_ : State) : Result :=
  refuseReserved 0b011010#6

/-- `RESERVED_1B`: the value `0b011011` is reserved (R33). -/
def execReserved1B (_ : State) : Result :=
  refuseReserved 0b011011#6

/-- `RESERVED_1C`: the value `0b011100` is reserved (R33). -/
def execReserved1C (_ : State) : Result :=
  refuseReserved 0b011100#6

/-- `RESERVED_1D`: the value `0b011101` is reserved (R33). -/
def execReserved1D (_ : State) : Result :=
  refuseReserved 0b011101#6

/-- `RESERVED_1E`: the value `0b011110` is reserved (R33). -/
def execReserved1E (_ : State) : Result :=
  refuseReserved 0b011110#6

/-- `RESERVED_1F`: the value `0b011111` is reserved (R33). -/
def execReserved1F (_ : State) : Result :=
  refuseReserved 0b011111#6

/-- `RESERVED_23`: the value `0b100011` is reserved (R33). -/
def execReserved23 (_ : State) : Result :=
  refuseReserved 0b100011#6

/-- `RESERVED_27`: the value `0b100111` is reserved (R33). -/
def execReserved27 (_ : State) : Result :=
  refuseReserved 0b100111#6

/-- `RESERVED_29`: the value `0b101001` is reserved (R33). -/
def execReserved29 (_ : State) : Result :=
  refuseReserved 0b101001#6

/-- `RESERVED_2A`: the value `0b101010` is reserved (R33). -/
def execReserved2A (_ : State) : Result :=
  refuseReserved 0b101010#6

/-- `RESERVED_2B`: the value `0b101011` is reserved (R33). -/
def execReserved2B (_ : State) : Result :=
  refuseReserved 0b101011#6

/-- `RESERVED_2D`: the value `0b101101` is reserved (R33). -/
def execReserved2D (_ : State) : Result :=
  refuseReserved 0b101101#6

/-- `RESERVED_2E`: the value `0b101110` is reserved (R33). -/
def execReserved2E (_ : State) : Result :=
  refuseReserved 0b101110#6

/-- `RESERVED_36`: the value `0b110110` is reserved (R33). -/
def execReserved36 (_ : State) : Result :=
  refuseReserved 0b110110#6

/-- `RESERVED_37`: the value `0b110111` is reserved (R33). -/
def execReserved37 (_ : State) : Result :=
  refuseReserved 0b110111#6

/-- `RESERVED_39`: the value `0b111001` is reserved (R33). -/
def execReserved39 (_ : State) : Result :=
  refuseReserved 0b111001#6

/-- `RESERVED_3B`: the value `0b111011` is reserved (R33). -/
def execReserved3B (_ : State) : Result :=
  refuseReserved 0b111011#6

/-- `RESERVED_3D`: the value `0b111101` is reserved (R33). -/
def execReserved3D (_ : State) : Result :=
  refuseReserved 0b111101#6

/-- `RESERVED_3E`: the value `0b111110` is reserved (R33). -/
def execReserved3E (_ : State) : Result :=
  refuseReserved 0b111110#6

/-- `RESERVED_3F`: the value `0b111111` is reserved (R33). -/
def execReserved3F (_ : State) : Result :=
  refuseReserved 0b111111#6

end Sys2Proof.Machine
end

