-- ==== Sys2Proof/Machine/Traps.lean ====
section
/-! DEFINITION. The EC values 0b00xxxx (40_ec_00xxxx_traps.md R50 to R59): unknown reason, trapped instructions and
accesses, Illegal Execution state. Each row runs its rule's pseudocode on the report: its own arm, and for any other cause
the row's class only where R91 diverts the cause to it. -/

namespace Sys2Proof.Machine

/-- `EC_UNKNOWN`, R50: `UnknownReason`, from either state (C4). -/
def execEcUnknown (s : State) : Result :=
  runArm (fun rel =>
    match s.inp.cause with
    | .unknownReason => .cls .unknown
    | _ => divertedTo .unknown s rel) s

/-- `EC_WFX`, R51: `Wfx(instr, cond_passed)`; a failed condition check is no exception (R98). -/
def execEcWfx (s : State) : Result :=
  runArm (fun rel =>
    match s.inp.cause with
    | .wfx _ condPassed => if condPassed then .cls .wfx else .noException
    | _ => divertedTo .wfx s rel) s

/-- `EC_CP15_MCR_MRC`, R52: a trapped MCR or MRC access to CP15, reported as EC_UNKNOWN where it uses that code (R95). -/
def execEcCp15McrMrc (s : State) : Result :=
  runArm (fun rel =>
    match s.inp.cause with
    | .coprocAccess .cp15 .mcrMrc =>
      require (decide (s.inp.execState = .aarch32)) .wrongExecState
      (if s.inp.usesUnknown then .cls .unknown else .cls .cp15McrMrc)
    | _ => divertedTo .cp15McrMrc s rel) s

/-- `EC_CP15_MCRR_MRRC`, R53: a trapped MCRR or MRRC access to CP15, reported as EC_UNKNOWN where it uses that code (R95). -/
def execEcCp15McrrMrrc (s : State) : Result :=
  runArm (fun rel =>
    match s.inp.cause with
    | .coprocAccess .cp15 .mcrrMrrc =>
      require (decide (s.inp.execState = .aarch32)) .wrongExecState
      (if s.inp.usesUnknown then .cls .unknown else .cls .cp15McrrMrrc)
    | _ => divertedTo .cp15McrrMrrc s rel) s

/-- `EC_CP14_MCR_MRC`, R54: a trapped MCR or MRC access to CP14, reported as EC_UNKNOWN where it uses that code (R95). -/
def execEcCp14McrMrc (s : State) : Result :=
  runArm (fun rel =>
    match s.inp.cause with
    | .coprocAccess .cp14 .mcrMrc =>
      require (decide (s.inp.execState = .aarch32)) .wrongExecState
      (if s.inp.usesUnknown then .cls .unknown else .cls .cp14McrMrc)
    | _ => divertedTo .cp14McrMrc s rel) s

/-- `EC_CP14_LDC_STC`, R55: a trapped LDC or STC access to CP14; no diversion, and no memory access (R24). -/
def execEcCp14LdcStc (s : State) : Result :=
  runArm (fun rel =>
    match s.inp.cause with
    | .coprocAccess .cp14 .ldcStc =>
      require (decide (s.inp.execState = .aarch32)) .wrongExecState
      (.cls .cp14LdcStc)
    | _ => divertedTo .cp14LdcStc s rel) s

/-- `EC_SIMD_FP_ACCESS`, R56: a trapped SIMD or floating-point access, from either state (C3). -/
def execEcSimdFpAccess (s : State) : Result :=
  runArm (fun rel =>
    match s.inp.cause with
    | .simdFpAccess => .cls .simdFpAccess
    | _ => divertedTo .simdFpAccess s rel) s

/-- `EC_CP10_ID`, R57: an ID Group trapped read of MVFR0, MVFR1, MVFR2 or FPSID, reported as EC_SIMD_FP_ACCESS where it uses that
code (R96). -/
def execEcCp10Id (s : State) : Result :=
  runArm (fun rel =>
    match s.inp.cause with
    | .coprocAccess .cp10 (.idRead _) =>
      require (decide (s.inp.execState = .aarch32)) .wrongExecState
      (if s.inp.usesSimdFp then .cls .simdFpAccess else .cls .cp10Id)
    | _ => divertedTo .cp10Id s rel) s

/-- `EC_CP14_MCRR_MRRC`, R58: a trapped MCRR or MRRC access to CP14; no diversion. -/
def execEcCp14McrrMrrc (s : State) : Result :=
  runArm (fun rel =>
    match s.inp.cause with
    | .coprocAccess .cp14 .mcrrMrrc =>
      require (decide (s.inp.execState = .aarch32)) .wrongExecState
      (.cls .cp14McrrMrrc)
    | _ => divertedTo .cp14McrrMrrc s rel) s

/-- `EC_ILLEGAL_STATE`, R59: the Illegal Execution state, `PSTATE.IL = 1`. -/
def execEcIllegalState (s : State) : Result :=
  runArm (fun rel =>
    match s.inp.cause with
    | .illegalExecutionState => .cls .illegalState
    | _ => divertedTo .illegalState s rel) s

end Sys2Proof.Machine
end

