-- ==== Sys2Proof/Machine/Dispatch.lean ====
section
/-! DEFINITION. The meaning of each row of the opcode table, one arm a row. -/

namespace Sys2Proof.Machine

def exec (i : Instr) (s : State) : Host.Outcome State Fault Refusal :=
  match i with
  | .ecUnknown => Sys2Proof.Machine.execEcUnknown s
  | .ecWfx => Sys2Proof.Machine.execEcWfx s
  | .reserved02 => Sys2Proof.Machine.execReserved02 s
  | .ecCp15McrMrc => Sys2Proof.Machine.execEcCp15McrMrc s
  | .ecCp15McrrMrrc => Sys2Proof.Machine.execEcCp15McrrMrrc s
  | .ecCp14McrMrc => Sys2Proof.Machine.execEcCp14McrMrc s
  | .ecCp14LdcStc => Sys2Proof.Machine.execEcCp14LdcStc s
  | .ecSimdFpAccess => Sys2Proof.Machine.execEcSimdFpAccess s
  | .ecCp10Id => Sys2Proof.Machine.execEcCp10Id s
  | .reserved09 => Sys2Proof.Machine.execReserved09 s
  | .reserved0A => Sys2Proof.Machine.execReserved0A s
  | .reserved0B => Sys2Proof.Machine.execReserved0B s
  | .ecCp14McrrMrrc => Sys2Proof.Machine.execEcCp14McrrMrrc s
  | .reserved0D => Sys2Proof.Machine.execReserved0D s
  | .ecIllegalState => Sys2Proof.Machine.execEcIllegalState s
  | .reserved0F => Sys2Proof.Machine.execReserved0F s
  | .reserved10 => Sys2Proof.Machine.execReserved10 s
  | .ecSvc32 => Sys2Proof.Machine.execEcSvc32 s
  | .ecHvc32 => Sys2Proof.Machine.execEcHvc32 s
  | .ecSmc32 => Sys2Proof.Machine.execEcSmc32 s
  | .reserved14 => Sys2Proof.Machine.execReserved14 s
  | .ecSvc64 => Sys2Proof.Machine.execEcSvc64 s
  | .ecHvc64 => Sys2Proof.Machine.execEcHvc64 s
  | .ecSmc64 => Sys2Proof.Machine.execEcSmc64 s
  | .ecSys64 => Sys2Proof.Machine.execEcSys64 s
  | .reserved19 => Sys2Proof.Machine.execReserved19 s
  | .reserved1A => Sys2Proof.Machine.execReserved1A s
  | .reserved1B => Sys2Proof.Machine.execReserved1B s
  | .reserved1C => Sys2Proof.Machine.execReserved1C s
  | .reserved1D => Sys2Proof.Machine.execReserved1D s
  | .reserved1E => Sys2Proof.Machine.execReserved1E s
  | .reserved1F => Sys2Proof.Machine.execReserved1F s
  | .ecIabtLower => Sys2Proof.Machine.execEcIabtLower s
  | .ecIabtCurrent => Sys2Proof.Machine.execEcIabtCurrent s
  | .ecPcAlign => Sys2Proof.Machine.execEcPcAlign s
  | .reserved23 => Sys2Proof.Machine.execReserved23 s
  | .ecDabtLower => Sys2Proof.Machine.execEcDabtLower s
  | .ecDabtCurrent => Sys2Proof.Machine.execEcDabtCurrent s
  | .ecSpAlign => Sys2Proof.Machine.execEcSpAlign s
  | .reserved27 => Sys2Proof.Machine.execReserved27 s
  | .ecFpExc32 => Sys2Proof.Machine.execEcFpExc32 s
  | .reserved29 => Sys2Proof.Machine.execReserved29 s
  | .reserved2A => Sys2Proof.Machine.execReserved2A s
  | .reserved2B => Sys2Proof.Machine.execReserved2B s
  | .ecFpExc64 => Sys2Proof.Machine.execEcFpExc64 s
  | .reserved2D => Sys2Proof.Machine.execReserved2D s
  | .reserved2E => Sys2Proof.Machine.execReserved2E s
  | .ecSerror => Sys2Proof.Machine.execEcSerror s
  | .ecBreakpointLower => Sys2Proof.Machine.execEcBreakpointLower s
  | .ecBreakpointCurrent => Sys2Proof.Machine.execEcBreakpointCurrent s
  | .ecSoftstepLower => Sys2Proof.Machine.execEcSoftstepLower s
  | .ecSoftstepCurrent => Sys2Proof.Machine.execEcSoftstepCurrent s
  | .ecWatchpointLower => Sys2Proof.Machine.execEcWatchpointLower s
  | .ecWatchpointCurrent => Sys2Proof.Machine.execEcWatchpointCurrent s
  | .reserved36 => Sys2Proof.Machine.execReserved36 s
  | .reserved37 => Sys2Proof.Machine.execReserved37 s
  | .ecBkpt32 => Sys2Proof.Machine.execEcBkpt32 s
  | .reserved39 => Sys2Proof.Machine.execReserved39 s
  | .ecVectorCatch32 => Sys2Proof.Machine.execEcVectorCatch32 s
  | .reserved3B => Sys2Proof.Machine.execReserved3B s
  | .ecBrk64 => Sys2Proof.Machine.execEcBrk64 s
  | .reserved3D => Sys2Proof.Machine.execReserved3D s
  | .reserved3E => Sys2Proof.Machine.execReserved3E s
  | .reserved3F => Sys2Proof.Machine.execReserved3F s

end Sys2Proof.Machine
end

