-- ==== Sys2Proof/Machine/Fetch.lean ====
section
/-! DEFINITION. What a step takes from the environment's list: the bytes of a code to run, or an event that is no
row (log 1, log 2). -/

namespace Sys2Proof.Machine

/-- What the front of the list asks for. -/
inductive Fetched where
  /-- Run the row these bytes decode to, on this state. -/
  | run (bytes : List Byte) (s : State)
  /-- The event is no row; this is its outcome. -/
  | done (o : Result)

/-- Take in a report: it replaces the last one whole (log 8). -/
def State.latch (s : State) (inp : Inputs) (rest : List Presentation) : State :=
  { s with inp := inp, pending := rest }

/-- A presented cause: the code of the row whose rule names it (R91, log 1). The relation is settled first, as R91
does. -/
def fetchCause (s : State) : Fetched :=
  match checkedRelation s.inp with
  | .error r => .done (.refused r)
  | .ok rel =>
    match selectRow s.inp rel with
    | .error r => .done (.refused r)
    | .ok i => .run (encode i) s

/-- The front presentation; with none, the machine has nothing to classify (R121, R123). Only the event says what is
presented: an event without a cause goes on and records nothing even if the report has `PSTATE.IL = 1` or a misalignment
predicate true, which R12, R27 and R59 leave open (DESIGN CHOICE, log 31). -/
def fetch (s : State) : Fetched :=
  match s.pending with
  | [] => .done (.refused .awaitingPresentation)
  | p :: rest =>
    match p.event with
    | .causes others => fetchCause (s.latch (selectByPriority p.inputs others) rest)
    | .code b => .run [b] (s.latch p.inputs rest)
    | .handlerRead t => .done (handlerRead t (s.latch p.inputs rest))
    | .handlerWord t w => .done (handlerWord t w (s.latch p.inputs rest))
    | .exceptionReturn => .done (.next (exceptionReturn (s.latch p.inputs rest)))
    | .noCause => .done (.next (s.latch p.inputs rest))

/-- A report in which every condition holds, taken from AArch64 EL0 to EL2 (the one level every class is marked for,
R93), with no diversion. -/
def reportOf (cause : Cause) : Inputs :=
  { Inputs.quiet with
    cause := cause, target := .el2, pstateIl := 1#1, misalignedPc := true, misalignedSp := true, spChecked := true,
    misalignedData := true, sErrorPending := true,
    trapConfig := { trapsCause := true, hvcDisabled := false, smcDisabled := false } }

/-- A report of a row's own cause, in the state and at the level its rule asks for (R50 to R88); used only to place a
code where the next step fetches it. A reserved row has no cause. -/
def rowReport (i : Instr) : Inputs :=
  let a32 (c : Cause) : Inputs := { reportOf c with execState := .aarch32 }
  let current (c : Cause) : Inputs := { reportOf c with fromEl := .el2 }
  match i.cls with
  | none | some .unknown => reportOf .unknownReason
  | some .wfx => reportOf (.wfx .wfi true)
  | some .cp15McrMrc => a32 (.coprocAccess .cp15 .mcrMrc)
  | some .cp15McrrMrrc => a32 (.coprocAccess .cp15 .mcrrMrrc)
  | some .cp14McrMrc => a32 (.coprocAccess .cp14 .mcrMrc)
  | some .cp14LdcStc => a32 (.coprocAccess .cp14 .ldcStc)
  | some .simdFpAccess => reportOf .simdFpAccess
  | some .cp10Id => a32 (.coprocAccess .cp10 (.idRead .mvfr0))
  | some .cp14McrrMrrc => a32 (.coprocAccess .cp14 .mcrrMrrc)
  | some .illegalState => reportOf .illegalExecutionState
  | some .svc32 => a32 .svc
  | some .hvc32 => a32 .hvc
  | some .smc32 => a32 .smc
  | some .svc64 => reportOf .svc
  | some .hvc64 => reportOf .hvc
  | some .smc64 => reportOf .smc
  | some .sys64 => reportOf .sysAccess64
  | some .iabtLower => reportOf (.instructionAbort .mmuFault)
  | some .iabtCurrent => current (.instructionAbort .mmuFault)
  | some .pcAlign => reportOf .pcAlignment
  | some .dabtLower => reportOf (.dataAbort .mmuFault)
  | some .dabtCurrent => current (.dataAbort .mmuFault)
  | some .spAlign => reportOf .spAlignment
  | some .fpExc32 => a32 .fpException
  | some .fpExc64 => reportOf .fpException
  | some .serror => reportOf .sError
  | some .breakpointLower => reportOf .breakpoint
  | some .breakpointCurrent => current .breakpoint
  | some .softstepLower => reportOf .softwareStep
  | some .softstepCurrent => current .softwareStep
  | some .watchpointLower => reportOf .watchpoint
  | some .watchpointCurrent => current .watchpoint
  | some .bkpt32 => a32 .bkpt
  | some .vectorCatch32 => a32 .vectorCatch
  | some .brk64 => reportOf .brk

/-- The presentation that hands one byte to the next step, with a report of the cause of the row it decodes to. -/
def codePresentation (b : Byte) : Presentation :=
  match decode [b] with
  | .ok i => { inputs := rowReport i, event := .code b }
  | .error _ => { inputs := reportOf .unknownReason, event := .code b }

end Sys2Proof.Machine
end

