-- ==== Sys2Proof/Machine/Step.lean ====
section
/-! DEFINITION. One step (R123): take the front presentation; where it asks for a row, decode the row's code and run
its meaning. -/

namespace Sys2Proof.Machine

/-- One step. -/
def step (s : State) : Host.Outcome State Fault Refusal :=
  match fetch s with
  | .done o => o
  | .run bytes s' =>
    match decode bytes with
    | .error e => .refused (.undecodable e)
    | .ok i => exec i s'

/-- `s` with a code, numbered as the opcode table numbers its bits, placed where the next step fetches it: at the
front of the environment's list, with a report of the row's own cause (log 2). -/
def State.withFetchWord (s : State) (_nbits w : Nat) : State :=
  { s with pending := codePresentation (BitVec.ofNat 8 w) :: s.pending }

end Sys2Proof.Machine
end

