-- ==== Sys2Proof/Safety.lean ====
section
/-! DEFINITION. The terms claims use: legal syndromes and states, what a report records, and what an environment may
supply. -/

namespace Sys2Proof.Machine

/-- A holder of level `t` is legal: unwritten, or its EC is the code of a class that can be taken to `t`, and its ISS
has `ISS_WIDTH` bits (R93, R112, R113); `0b101000` only where R111 lets it be recorded. -/
def holderLegal (p : Params) (t : Target) : Option Syndrome → Bool
  | none => true
  | some y =>
    decide (y.iss < 2 ^ p.issWidth) &&
      match decodeEc y.ec with
      | .allocated c => targetOk p c t && p.canRecord c
      | .reserved _ => false

/-- A handler's last dispatch reached an arm its level has (R113). -/
def handledLegal (p : Params) : Option (Target × EcClass) → Bool
  | none => true
  | some (t, c) => targetOk p c t

/-- The invariant of the machine: every holder is legal, and so is the last dispatch. -/
def State.legal (s : State) : Bool :=
  holderLegal s.params .el1 s.syndromeEL1 && holderLegal s.params .el2 s.syndromeEL2 &&
    holderLegal s.params .el3 s.syndromeEL3 && handledLegal s.params s.handled

/-- The level can take an exception that this table describes (R93, D18). -/
def canTake (s : State) (t : Target) : Bool :=
  levelPresent s.params t && targetUsesAArch64 s.params t

/-- The cause arose in AArch32 state below the target level, the one place R91 lets AArch32 causes come from (D18). -/
abbrev fromAArch32 (s : State) : Prop :=
  s.inp.execState = .aarch32 ∧ elRank s.inp.fromEl < targetRank s.inp.target

/-- The cause arose in AArch64 state at or below the target level (R92). -/
abbrev fromAArch64 (s : State) : Prop :=
  s.inp.execState = .aarch64 ∧ elRank s.inp.fromEl ≤ targetRank s.inp.target

/-- The cause arose where R91 lets a cause of either Execution state come from. -/
abbrev fromEither (s : State) : Prop :=
  fromAArch32 s ∨ fromAArch64 s

/-- `t` is `s` after an exception that recorded `ec`, with an ISS in the format `fmt`, for the target level: that
holder is written, and nothing else but the draw counter differs (R8, R90). -/
def Recorded (ec : EcCode) (fmt : IssFormat) (s t : State) : Prop :=
  t.holder s.inp.target =
      some { ec := ec, iss := Config.issOf s.issDraws fmt s.inp.cause % 2 ^ s.params.issWidth } ∧
    (∀ u : Target, u ≠ s.inp.target → t.holder u = s.holder u) ∧
    t.params = s.params ∧ t.inp = s.inp ∧ t.pending = s.pending ∧ t.handled = s.handled ∧
    t.issDraws = s.issDraws + 1

/-- Running a row on `s` answers a next state, in which exactly this was recorded. -/
def Records (i : Instr) (s : State) (ec : EcCode) (fmt : IssFormat) : Prop :=
  ∃ t : State, exec i s = .next t ∧ Recorded ec fmt s t

/-- The event is a debug related exception's cause (R108). -/
def isDebugCause : Cause → Bool
  | .breakpoint | .softwareStep | .watchpoint | .vectorCatch | .bkpt | .brk => true
  | _ => false

/-- The front event comes from the machine itself: no code and no syndrome word is supplied from outside. -/
def isInternalEvent : Event → Bool
  | .code _ | .handlerWord _ _ => false
  | _ => true

/-- What a step on a presented cause gives when `classify` answers `a`: a refusal, no exception, or the exception of
the class taken (R90, R91, R123). -/
def outcomeOf (a : Arm) (s : State) : Result :=
  match a with
  | .refuse r => .refused r
  | .noException => .next s
  | .cls c => .next (takeException c s)

end Sys2Proof.Machine
end

