-- ==== Sys2Proof/Certificates/Slice0/Obligations.lean ====
section
/-! DEFINITION. The statements for the provers. A statement that rests on a decision the spec marks as its own, or on a
choice of the model's, says so in its docstring and has basis 'derived'. -/

open Sys2Proof Sys2Proof.Machine

/-- The bold paragraphs of R50 to R59, each whole. -/
def Obligations.TrapClassRecordsAreTheSourcesRecords : Prop :=
  (encodeEc .unknown = 0b000000#6 ∧ record .unknown =
    ⟨0b000000#6, false, true, true, true, true,
      "Unknown or Uncategorized Reason - generally used for exceptions as a result of erroneous execution.", .unknown,
      "See ISS encoding for an exception with an unknown reason.", 1837⟩) ∧
  (encodeEc .wfx = 0b000001#6 ∧ record .wfx =
    ⟨0b000001#6, true, true, true, true, true,
      "Exceptions from WFE/WFI from either AArch32 or AArch64 as a result of configurable traps, enables, or disables.Conditional WFE and WFI instructions that fail their condition code check do not cause an exception.", .wfx,
      "See ISS encoding for an exception from a WFI or WFE instruction.", 1837⟩) ∧
  (encodeEc .cp15McrMrc = 0b000011#6 ∧ record .cp15McrMrc =
    ⟨0b000011#6, true, false, true, true, true,
      "Exceptions from MCR/MRC to CP15 from AArch32 as a result of configurable traps, enables, or disables that do not use code 0b000000.", .mcrMrc,
      "See ISS encoding for an exception from an MCR or MRC access from AArch32 state", 1839⟩) ∧
  (encodeEc .cp15McrrMrrc = 0b000100#6 ∧ record .cp15McrrMrrc =
    ⟨0b000100#6, true, false, true, true, true,
      "Exceptions from MCRR/MRRC to CP15 from AArch32 as a result of configurable traps, enables, or disables that do not use code 0b000000.", .mcrrMrrc,
      "See ISS encoding for an exception from an MCRR or MRRC access from AArch32 state.", 1840⟩) ∧
  (encodeEc .cp14McrMrc = 0b000101#6 ∧ record .cp14McrMrc =
    ⟨0b000101#6, true, false, true, true, true,
      "Exceptions from MCR/MRC to CP14 from AArch32 as a result of configurable traps, enables, or disables that do not use code 0b000000.", .mcrMrc,
      "See ISS encoding for an exception from an MCR or MRC access from AArch32 state.", 1839⟩) ∧
  (encodeEc .cp14LdcStc = 0b000110#6 ∧ record .cp14LdcStc =
    ⟨0b000110#6, true, false, true, true, true,
      "Exceptions from LDC/STC to CP14 from AArch32 as a result of configurable traps, enables, or disables. Note The only architected uses of these instructions to access CP14 are:• An STC to write to DBGDTRRX_EL0 or DBGDTRRXint.• An LDC to read from DBGDTRTX_EL0 or DBGDTRTXint.", .ldcStc,
      "See ISS encoding for an exception from an LDC or STC access to CP14 from AArch32 state.", 1842⟩) ∧
  (encodeEc .simdFpAccess = 0b000111#6 ∧ record .simdFpAccess =
    ⟨0b000111#6, false, true, true, true, true,
      "Exceptions from access to Advanced SIMD or Floating Point as a result of configurable traps, enables, or disables.", .simdFp,
      "See ISS encoding for an exception from an access to a SIMD or floating-point register.", 1844⟩) ∧
  (encodeEc .cp10Id = 0b001000#6 ∧ record .cp10Id =
    ⟨0b001000#6, true, false, false, true, false,
      "Exceptions from MRC (or VMRS) to CP10 for MVFR0, MVFR1, MVFR2, or FPSID of ID Group traps from AArch32 unless reported using code 0b000111.", .mcrMrc,
      "See ISS encoding for an exception from an MCR or MRC access from AArch32 state.", 1839⟩) ∧
  (encodeEc .cp14McrrMrrc = 0b001100#6 ∧ record .cp14McrrMrrc =
    ⟨0b001100#6, true, false, true, true, true,
      "Exceptions from MCRR/MRRC to CP14 from AArch32 as a result of configurable traps, enables, or disables.", .mcrrMrrc,
      "See ISS encoding for an exception from an MCRR or MRRC access from AArch32 state.", 1840⟩) ∧
  (encodeEc .illegalState = 0b001110#6 ∧ record .illegalState =
    ⟨0b001110#6, false, true, true, true, true,
      "Exceptions that occur because the value of PSTATE.IL is 1.", .illegalPcSp,
      "See ISS encoding for an exception from an Illegal Execution state, PC alignment fault, or SP alignment fault.", 1845⟩)

/-- The bold paragraphs of R60 to R66, each whole. -/
def Obligations.CallClassRecordsAreTheSourcesRecords : Prop :=
  (encodeEc .svc32 = 0b010001#6 ∧ record .svc32 =
    ⟨0b010001#6, true, false, true, true, false,
      "SVC executed in AArch32.", .hvcSvc,
      "See ISS encoding for an exception from HVC or SVC instruction execution.", 1845⟩) ∧
  (encodeEc .hvc32 = 0b010010#6 ∧ record .hvc32 =
    ⟨0b010010#6, true, false, false, true, false,
      "HVC that is not disabled executed in AArch32.", .hvcSvc,
      "See ISS encoding for an exception from HVC or SVC instruction execution.", 1845⟩) ∧
  (encodeEc .smc32 = 0b010011#6 ∧ record .smc32 =
    ⟨0b010011#6, true, false, false, true, true,
      "SMC that is not disabled executed in AArch32.", .smc32,
      "See ISS encoding for an exception from SMC instruction execution in AArch32 state.", 1846⟩) ∧
  (encodeEc .svc64 = 0b010101#6 ∧ record .svc64 =
    ⟨0b010101#6, false, true, true, true, true,
      "SVC executed in AArch64.", .hvcSvc,
      "See ISS encoding for an exception from HVC or SVC instruction execution.", 1845⟩) ∧
  (encodeEc .hvc64 = 0b010110#6 ∧ record .hvc64 =
    ⟨0b010110#6, false, true, false, true, true,
      "HVC that is not disabled executed in AArch64.", .hvcSvc,
      "See ISS encoding for an exception from HVC or SVC instruction execution.", 1845⟩) ∧
  (encodeEc .smc64 = 0b010111#6 ∧ record .smc64 =
    ⟨0b010111#6, false, true, false, true, true,
      "SMC that is not disabled executed in AArch64.", .smc64,
      "See ISS encoding for an exception from SMC instruction execution in AArch64 state.", 1846⟩) ∧
  (encodeEc .sys64 = 0b011000#6 ∧ record .sys64 =
    ⟨0b011000#6, false, true, true, true, true,
      "Exceptions as a result of MSR, MRS, or System AArch64 instructions as a result of configurable traps, enables, or disables, except those using codes 0b000000, 0b000001, or 0b000111.", .sys64,
      "See ISS encoding for an exception from MSR, MRS, or System instruction execution in AArch64 state.", 1847⟩)

/-- The bold paragraphs of R70 to R78, each whole. -/
def Obligations.AbortClassRecordsAreTheSourcesRecords : Prop :=
  (encodeEc .iabtLower = 0b100000#6 ∧ record .iabtLower =
    ⟨0b100000#6, false, true, true, true, true,
      "Instruction Abort that caused entry from a lower exception level (AArch32 or AArch64). Used for instruction access generated MMU faults and synchronous external aborts, including synchronous parity errors. Not used for debug related exceptions.", .iabt,
      "See ISS encoding for an exception from an Instruction abort exception.", 1848⟩) ∧
  (encodeEc .iabtCurrent = 0b100001#6 ∧ record .iabtCurrent =
    ⟨0b100001#6, false, true, true, true, true,
      "Instruction Abort that caused entry from a current exception level (AArch64). Used for instruction access generated MMU faults and synchronous external aborts, including synchronous parity errors. Not used for debug related exceptions.", .iabt,
      "See ISS encoding for an exception from an Instruction abort exception.", 1848⟩) ∧
  (encodeEc .pcAlign = 0b100010#6 ∧ record .pcAlign =
    ⟨0b100010#6, false, true, true, true, true,
      "PC Alignment Exception.", .illegalPcSp,
      "See ISS encoding for an exception from an Illegal Execution state, PC alignment fault, or SP alignment fault.", 1845⟩) ∧
  (encodeEc .dabtLower = 0b100100#6 ∧ record .dabtLower =
    ⟨0b100100#6, true, true, true, true, true,
      "Data Abort that caused entry from a lower exception level (AArch32 or AArch64). Used for data access generated MMU faults, alignment faults other than those caused by the Stack Pointer misalignment, and synchronous external aborts, including synchronous parity errors. Not used for debug related exceptions.", .dabt,
      "See ISS encoding for an exception from a Data abort exception.", 1849⟩) ∧
  (encodeEc .dabtCurrent = 0b100101#6 ∧ record .dabtCurrent =
    ⟨0b100101#6, false, true, true, true, true,
      "Data Abort that caused entry from a current exception level (AArch64). Used for data access generated MMU faults, alignment faults other than those caused by the Stack Pointer misalignment, and synchronous external aborts, including synchronous parity errors. Not used for debug related exceptions.", .dabt,
      "See ISS encoding for an exception from a Data abort exception.", 1849⟩) ∧
  (encodeEc .spAlign = 0b100110#6 ∧ record .spAlign =
    ⟨0b100110#6, false, true, true, true, true,
      "Stack Pointer Alignment Exception.", .illegalPcSp,
      "See ISS encoding for an exception from an Illegal Execution state, PC alignment fault, or SP alignment fault.", 1845⟩) ∧
  (encodeEc .fpExc32 = 0b101000#6 ∧ record .fpExc32 =
    ⟨0b101000#6, true, false, true, true, false,
      "Exceptions as a result of Floating-point exception (optional feature) from AArch32.", .fpExc,
      "See ISS encoding for an exception from a floating-point exception.", 1852⟩) ∧
  (encodeEc .fpExc64 = 0b101100#6 ∧ record .fpExc64 =
    ⟨0b101100#6, false, true, true, true, true,
      "Exceptions as a result of Floating-point exception from AArch64.", .fpExc,
      "See ISS encoding for an exception from a floating-point exception.", 1852⟩) ∧
  (encodeEc .serror = 0b101111#6 ∧ record .serror =
    ⟨0b101111#6, false, true, true, true, true,
      "SError Interrupt.", .serror,
      "See ISS encoding for an SError interrupt.", 1854⟩)

/-- The bold paragraphs of R80 to R88, each whole. -/
def Obligations.DebugClassRecordsAreTheSourcesRecords : Prop :=
  (encodeEc .breakpointLower = 0b110000#6 ∧ record .breakpointLower =
    ⟨0b110000#6, false, true, true, true, false,
      "Breakpoint debug event that caused entry from a lower exception level.", .breakpointVcatch,
      "See ISS encoding for a Breakpoint exception or Vector Catch exception.", 1854⟩) ∧
  (encodeEc .breakpointCurrent = 0b110001#6 ∧ record .breakpointCurrent =
    ⟨0b110001#6, false, true, true, true, false,
      "Breakpoint debug event that caused entry from a current exception level.", .breakpointVcatch,
      "See ISS encoding for a Breakpoint exception or Vector Catch exception.", 1854⟩) ∧
  (encodeEc .softstepLower = 0b110010#6 ∧ record .softstepLower =
    ⟨0b110010#6, false, true, true, true, false,
      "Software step debug event that caused entry from a lower exception level.", .softstep,
      "See ISS encoding for Software Step exception.", 1857⟩) ∧
  (encodeEc .softstepCurrent = 0b110011#6 ∧ record .softstepCurrent =
    ⟨0b110011#6, false, true, true, true, false,
      "Software step debug event that caused entry from a current exception level.", .softstep,
      "See ISS encoding for Software Step exception.", 1857⟩) ∧
  (encodeEc .watchpointLower = 0b110100#6 ∧ record .watchpointLower =
    ⟨0b110100#6, false, true, true, true, false,
      "Watchpoint debug event that caused entry from a lower exception level.", .watchpoint,
      "See ISS encoding for a Watchpoint exception.", 1855⟩) ∧
  (encodeEc .watchpointCurrent = 0b110101#6 ∧ record .watchpointCurrent =
    ⟨0b110101#6, false, true, true, true, false,
      "Watchpoint debug event that caused entry from a current exception level.", .watchpoint,
      "See ISS encoding for a Watchpoint exception.", 1855⟩) ∧
  (encodeEc .bkpt32 = 0b111000#6 ∧ record .bkpt32 =
    ⟨0b111000#6, true, false, true, true, false,
      "BKPT instruction executed in AArch32 state.", .swBreakpoint,
      "See ISS encoding for a Software Breakpoint Instruction exception.", 1858⟩) ∧
  (encodeEc .vectorCatch32 = 0b111010#6 ∧ record .vectorCatch32 =
    ⟨0b111010#6, false, true, false, true, false,
      "AArch32 state Vector catch debug event.", .breakpointVcatch,
      "See ISS encoding for a Breakpoint exception or Vector Catch exception.", 1854⟩) ∧
  (encodeEc .brk64 = 0b111100#6 ∧ record .brk64 =
    ⟨0b111100#6, false, true, true, true, true,
      "BRK instruction executed in AArch64 state.", .swBreakpoint,
      "See ISS encoding for a Software Breakpoint Instruction exception.", 1858⟩)

/-- Both directions over all byte strings. The byte is the model's choice (log 3); the codes are R32's and R33's. -/
def Obligations.DecodeAcceptsExactlyTheEncodings : Prop :=
  ∀ (bytes : List Byte) (i : Instr), decode bytes = .ok i ↔ bytes = encode i

/-- A sanity statement; the layout in a byte is the model's choice (log 3). -/
def Obligations.WrittenOutCodesDecodeToTheirRows : Prop :=
  decode [0b00000001#8] = .ok .ecWfx ∧ decode [0b00001100#8] = .ok .ecCp14McrrMrrc ∧
  decode [0b00010101#8] = .ok .ecSvc64 ∧ decode [0b00011000#8] = .ok .ecSys64 ∧
  decode [0b00100100#8] = .ok .ecDabtLower ∧ decode [0b00101111#8] = .ok .ecSerror ∧
  decode [0b00110011#8] = .ok .ecSoftstepCurrent ∧ decode [0b00111100#8] = .ok .ecBrk64 ∧
  decode [0b00000010#8] = .ok .reserved02 ∧ decode [0b01000000#8] = .error .spareBitsSet ∧
  decode [] = .error .noCode ∧ decode [0b00000001#8, 0b00000000#8] = .error .trailingBytes

/-- R32, R33 and R40; the treatment of reserved values is the spec's decision D7. -/
def Obligations.DecodeEcInvertsEncodeEcAndReservesTheRest : Prop :=
  (∀ c d : EcClass, encodeEc c = encodeEc d → c = d) ∧
  (∀ c : EcClass, decodeEc (encodeEc c) = .allocated c) ∧
  (∀ v : EcCode, (∀ c : EcClass, v ≠ encodeEc c) → decodeEc v = .reserved v) ∧
  ((List.range 64).filter fun n => decodeEc (BitVec.ofNat 6 n) = .reserved (BitVec.ofNat 6 n)).length = 29 ∧
  (∀ i : Instr, decodeEc i.code = (match i.cls with | some c => .allocated c | none => .reserved i.code))

/-- R41 for every value of the open parameters; that the code has a place in a word at all is the spec's decision D2. -/
def Obligations.EcOfWordReadsBackThePlacedCode : Prop :=
  ∀ (width ecLsb : Nat) (ec : EcCode) (rest : BitVec width), ecLsb + 6 ≤ width →
    (∀ k < 6, rest.getLsbD (ecLsb + k) = false) →
    ecOfWord ecLsb (wordOf ecLsb ec rest) = ec ∧
      ∀ j, (j < ecLsb ∨ ecLsb + 6 ≤ j) → (wordOf ecLsb ec rest).getLsbD j = rest.getLsbD j

/-- D22's `word_of(ec, iss)`; the ISS as a number is the model's (log 7, log 25). -/
def Obligations.SyndromeWordShowsTheRecordedCode : Prop :=
  ∀ (p : Params) (y : Syndrome), p.issWidth ≤ p.ecLsb → p.ecLsb + 6 ≤ p.wordWidth → y.iss < 2 ^ p.issWidth →
    ecOfWord p.ecLsb (syndromeWord p y) = y.ec

/-- The counts of R36 and R37; that the page belongs to the format is the spec's own derivation in R37. -/
def Obligations.IssFormatsAndPagesOfTheTable : Prop :=
  (EcClass.all.map issFormat).eraseDups.length = 19 ∧ (EcClass.all.map fun c => (record c).page).eraseDups.length = 15 ∧
  EcClass.all.length = 35 ∧ (∀ c : EcClass, c ∈ EcClass.all) ∧
  ∀ c : EcClass, (record c).page = pageOf (issFormat c)

/-- R93 and the counts of R113, under the spec's decisions D3 and D18. -/
def Obligations.TargetOkIsTheMarkedLevels : Prop :=
  (∀ (p : Params) (c : EcClass),
    targetOk p c .el1 = (decide (c ∉ ([.cp10Id, .hvc32, .smc32, .hvc64, .smc64, .vectorCatch32] : List EcClass)) && p.el1UsesAArch64) ∧
    targetOk p c .el2 = (p.hasEL2 && p.el2UsesAArch64) ∧
    targetOk p c .el3 = (decide (c ∉ ([.cp10Id, .svc32, .hvc32, .fpExc32, .breakpointLower, .breakpointCurrent, .softstepLower, .softstepCurrent,
        .watchpointLower, .watchpointCurrent, .bkpt32, .vectorCatch32] : List EcClass)) && p.hasEL3 && p.el3UsesAArch64)) ∧
  (EcClass.all.filter (targetFlag · .el1)).length = 29 ∧ (EcClass.all.filter (targetFlag · .el2)).length = 35 ∧
  (EcClass.all.filter (targetFlag · .el3)).length = 23

/-- R94 under the spec's decision D4 and the conflicts C1 to C4. -/
def Obligations.FromOkIsTheAdmittedStates : Prop :=
  (∀ c : EcClass, fromOk c .aarch32 = decide (c ∈ ([.unknown, .wfx, .cp15McrMrc, .cp15McrrMrrc, .cp14McrMrc, .cp14LdcStc, .simdFpAccess, .cp10Id,
      .cp14McrrMrrc, .svc32, .hvc32, .smc32, .iabtLower, .dabtLower, .fpExc32, .bkpt32, .vectorCatch32] : List EcClass))) ∧
  (∀ c : EcClass, fromOk c .aarch64 = (record c).aarch64) ∧
  (EcClass.all.filter (fromOk · .aarch32)).length = 17 ∧ (EcClass.all.filter (fromOk · .aarch64)).length = 24 ∧
  (EcClass.all.filter fun c => fromOk c .aarch32 && fromOk c .aarch64) = ([.unknown, .wfx, .simdFpAccess, .iabtLower, .dabtLower, .vectorCatch32] : List EcClass)

/-- R92 under the spec's decision D5. -/
def Obligations.RelationIsTheOrderOfLevels : Prop :=
  ∀ (f : El) (t : Target),
    (relation f t = some .lower ↔ (f, t) ∈ [(El.el0, Target.el1), (.el0, .el2), (.el0, .el3), (.el1, .el2), (.el1, .el3), (.el2, .el3)]) ∧
    (relation f t = some .current ↔ (f, t) ∈ [(El.el1, Target.el1), (.el2, .el2), (.el3, .el3)]) ∧
    (relation f t = none ↔ (f, t) ∈ [(El.el2, Target.el1), (.el3, .el1), (.el3, .el2)])

/-- R92's last sentence and the paired arms of R91; the relation is the spec's decision D5. -/
def Obligations.OnlyFivePairsOfClassesDependOnTheRelation : Prop :=
  ∀ (p : Params) (inp : Inputs),
    ((∃ k, inp.cause = .instructionAbort k) →
      causeArm p inp .lower = .cls .iabtLower ∧ causeArm p inp .current = .cls .iabtCurrent) ∧
    ((∃ k, inp.cause = .dataAbort k) →
      causeArm p inp .lower = .cls .dabtLower ∧ causeArm p inp .current = .cls .dabtCurrent) ∧
    (inp.cause = .breakpoint →
      causeArm p inp .lower = .cls .breakpointLower ∧ causeArm p inp .current = .cls .breakpointCurrent) ∧
    (inp.cause = .softwareStep →
      causeArm p inp .lower = .cls .softstepLower ∧ causeArm p inp .current = .cls .softstepCurrent) ∧
    (inp.cause = .watchpoint →
      causeArm p inp .lower = .cls .watchpointLower ∧ causeArm p inp .current = .cls .watchpointCurrent) ∧
    ((∀ k, inp.cause ≠ .instructionAbort k) → (∀ k, inp.cause ≠ .dataAbort k) → inp.cause ≠ .breakpoint →
      inp.cause ≠ .softwareStep → inp.cause ≠ .watchpoint → causeArm p inp .lower = causeArm p inp .current)

/-- R90 and R8. That other levels' holders stay is the spec's decision D2 (log 16); the counter is the model's (log 7). -/
def Obligations.RaiseExceptionWritesOnlyTheTargetSyndrome : Prop :=
  ∀ (s : State) (ec : EcCode) (fmt : IssFormat), Recorded ec fmt s (raiseException ec fmt s)

/-- The frame of every row (R90, R91, R112). Admission rests on the spec's decisions D3 and D4, the other holders on D2. -/
def Obligations.ARowRecordsOneAdmittedClassOrNothing : Prop :=
  ∀ (i : Instr) (s t : State), exec i s = .next t →
    (t = s ∧ ((∃ w, s.inp.cause = .wfx w false) ∨
      (s.params.disabledCallClass = none ∧
        ((s.inp.cause = .hvc ∧ s.inp.trapConfig.hvcDisabled = true) ∨
          (s.inp.cause = .smc ∧ s.inp.trapConfig.smcDisabled = true))))) ∨
    ∃ c : EcClass, fromOk c s.inp.execState = true ∧ targetOk s.params c s.inp.target = true ∧
      Recorded (encodeEc c) (issFormat c) s t

/-- R33: reserved values. That their use is refused is the spec's decision D7. -/
def Obligations.ReservedRowsAreRefused : Prop :=
  ∀ (s : State) (row : Instr × EcCode),
    row ∈ ([(.reserved02, 0b000010#6), (.reserved09, 0b001001#6), (.reserved0A, 0b001010#6),
      (.reserved0B, 0b001011#6), (.reserved0D, 0b001101#6), (.reserved0F, 0b001111#6),
      (.reserved10, 0b010000#6), (.reserved14, 0b010100#6), (.reserved19, 0b011001#6),
      (.reserved1A, 0b011010#6), (.reserved1B, 0b011011#6), (.reserved1C, 0b011100#6),
      (.reserved1D, 0b011101#6), (.reserved1E, 0b011110#6), (.reserved1F, 0b011111#6),
      (.reserved23, 0b100011#6), (.reserved27, 0b100111#6), (.reserved29, 0b101001#6),
      (.reserved2A, 0b101010#6), (.reserved2B, 0b101011#6), (.reserved2D, 0b101101#6),
      (.reserved2E, 0b101110#6), (.reserved36, 0b110110#6), (.reserved37, 0b110111#6),
      (.reserved39, 0b111001#6), (.reserved3B, 0b111011#6), (.reserved3D, 0b111101#6),
      (.reserved3E, 0b111110#6), (.reserved3F, 0b111111#6)] : List (Instr × EcCode)) →
    exec row.1 s = .refused (.reservedCode row.2)

/-- R50 with C4; admission rests on the spec's decisions D3, D4 and D18. -/
def Obligations.UnknownReasonRecordsEc000000 : Prop :=
  ∀ s : State, s.inp.cause = .unknownReason → canTake s s.inp.target = true → fromEither s →
    Records .ecUnknown s 0b000000#6 .unknown

/-- R51; admission rests on the spec's decisions D3, D4 and D18; the trap input is the model's (log 10). -/
def Obligations.TrappedWfxRecordsEc000001 : Prop :=
  ∀ (s : State) (w : WfxInstr), s.inp.cause = .wfx w true → s.inp.trapConfig.trapsCause = true →
    canTake s s.inp.target = true → fromEither s → Records .ecWfx s 0b000001#6 .wfx

/-- R98, read with R91's order: a refused relation refuses the whole (log 12). -/
def Obligations.WfxThatFailsItsConditionCheckCausesNoException : Prop :=
  ∀ (s : State) (w : WfxInstr), s.inp.cause = .wfx w false → fromEither s → exec .ecWfx s = .next s

/-- R52, R53, R54 and R95; the predicate is open by the spec's decision D9. -/
def Obligations.DivertibleCoprocessorTrapsRecordTheirOwnCodeOr000000 : Prop :=
  ∀ s : State, fromAArch32 s → canTake s s.inp.target = true → s.inp.trapConfig.trapsCause = true →
    (s.inp.cause = .coprocAccess .cp15 .mcrMrc → if s.inp.usesUnknown then Records .ecCp15McrMrc s 0b000000#6 .unknown
      else Records .ecCp15McrMrc s 0b000011#6 .mcrMrc) ∧
    (s.inp.cause = .coprocAccess .cp15 .mcrrMrrc → if s.inp.usesUnknown then Records .ecCp15McrrMrrc s 0b000000#6 .unknown
      else Records .ecCp15McrrMrrc s 0b000100#6 .mcrrMrrc) ∧
    (s.inp.cause = .coprocAccess .cp14 .mcrMrc → if s.inp.usesUnknown then Records .ecCp14McrMrc s 0b000000#6 .unknown
      else Records .ecCp14McrMrc s 0b000101#6 .mcrMrc)

/-- R55 and R58; that neither is diverted is the spec's decision D9; the LDC/STC register is the model's input (log 21). -/
def Obligations.UndivertedCp14TrapsRecordTheirOwnCode : Prop :=
  ∀ s : State, fromAArch32 s → canTake s s.inp.target = true → s.inp.trapConfig.trapsCause = true →
    (s.inp.cause = .coprocAccess .cp14 .ldcStc → s.inp.ldcStcReg ≠ some .other →
      Records .ecCp14LdcStc s 0b000110#6 .ldcStc) ∧
    (s.inp.cause = .coprocAccess .cp14 .mcrrMrrc → Records .ecCp14McrrMrrc s 0b001100#6 .mcrrMrrc)

/-- R56 with C3; admission rests on the spec's decisions D3, D4 and D18. -/
def Obligations.SimdFpAccessRecordsEc000111 : Prop :=
  ∀ s : State, s.inp.cause = .simdFpAccess → s.inp.trapConfig.trapsCause = true → canTake s s.inp.target = true →
    fromEither s → Records .ecSimdFpAccess s 0b000111#6 .simdFp

/-- R57 and R96; the predicate is open by the spec's decision D9, the marked level its reading D3. -/
def Obligations.Cp10IdReadRecordsEc001000AtEl2Or000111 : Prop :=
  ∀ (s : State) (reg : IdReg), s.inp.cause = .coprocAccess .cp10 (.idRead reg) → fromAArch32 s →
    canTake s s.inp.target = true → s.inp.trapConfig.trapsCause = true →
    (s.inp.usesSimdFp = true → Records .ecCp10Id s 0b000111#6 .simdFp) ∧
    (s.inp.usesSimdFp = false → s.inp.target = .el2 → Records .ecCp10Id s 0b001000#6 .mcrMrc) ∧
    (s.inp.usesSimdFp = false → s.inp.target ≠ .el2 → exec .ecCp10Id s = .refused .targetNotAdmitted)

/-- R59; PSTATE.IL is one bit by the spec's decision D17. -/
def Obligations.IllegalExecutionStateRecordsEc001110 : Prop :=
  ∀ s : State, s.inp.cause = .illegalExecutionState → s.inp.pstateIl = 1#1 → canTake s s.inp.target = true →
    fromAArch64 s → Records .ecIllegalState s 0b001110#6 .illegalPcSp

/-- R60 and R63; the marked levels are read by the spec's decision D3. -/
def Obligations.SvcRecordsEc010001Or010101 : Prop :=
  ∀ s : State, s.inp.cause = .svc → canTake s s.inp.target = true →
    (fromAArch32 s → s.inp.target ≠ .el3 → Records .ecSvc32 s 0b010001#6 .hvcSvc) ∧
    (fromAArch32 s → s.inp.target = .el3 → exec .ecSvc32 s = .refused .targetNotAdmitted) ∧
    (fromAArch64 s → Records .ecSvc64 s 0b010101#6 .hvcSvc)

/-- R61 and R64; the marked levels are read by the spec's decision D3. -/
def Obligations.EnabledHvcRecordsEc010010Or010110 : Prop :=
  ∀ s : State, s.inp.cause = .hvc → s.inp.trapConfig.hvcDisabled = false → canTake s s.inp.target = true →
    (fromAArch32 s → s.inp.target = .el2 → Records .ecHvc32 s 0b010010#6 .hvcSvc) ∧
    (fromAArch64 s → s.inp.target ≠ .el1 → Records .ecHvc64 s 0b010110#6 .hvcSvc) ∧
    (fromAArch64 s → s.inp.target = .el1 → exec .ecHvc64 s = .refused .targetNotAdmitted)

/-- R62 and R65; the marked levels are read by the spec's decision D3. -/
def Obligations.EnabledSmcRecordsEc010011Or010111 : Prop :=
  ∀ s : State, s.inp.cause = .smc → s.inp.trapConfig.smcDisabled = false → canTake s s.inp.target = true →
    s.inp.target ≠ .el1 →
    (fromAArch32 s → Records .ecSmc32 s 0b010011#6 .smc32) ∧ (fromAArch64 s → Records .ecSmc64 s 0b010111#6 .smc64)

/-- R99's treatment of a disabled call; the parameter is open by the spec's decision D10. That a class R111 has never
recorded is refused is the model's choice (log 20). -/
def Obligations.DisabledCallsGiveTheDisabledCallClass : Prop :=
  ∀ (s : State) (i : Instr),
    ((s.inp.cause = .hvc ∧ s.inp.trapConfig.hvcDisabled = true ∧
        ((i = .ecHvc32 ∧ fromAArch32 s) ∨ (i = .ecHvc64 ∧ fromAArch64 s))) ∨
      (s.inp.cause = .smc ∧ s.inp.trapConfig.smcDisabled = true ∧
        ((i = .ecSmc32 ∧ fromAArch32 s) ∨ (i = .ecSmc64 ∧ fromAArch64 s)))) →
    (s.params.disabledCallClass = none → exec i s = .next s) ∧
    (s.params.disabledCallClass = some .fpExc32 → s.params.hasA32FpTrap = false → exec i s = .refused .a32FpTrapAbsent) ∧
    ∀ c : EcClass, s.params.disabledCallClass = some c → (c = .fpExc32 → s.params.hasA32FpTrap = true) →
      fromOk c s.inp.execState = true → targetOk s.params c s.inp.target = true →
      Records i s (encodeEc c) (issFormat c)

/-- R99: none of the four codes, for parameters as Params.wf has them (log 20). -/
def Obligations.DisabledCallsNeverRecordACallClass : Prop :=
  ∀ (i : Instr) (s t : State), s.params.wf = true →
    ((s.inp.cause = .hvc ∧ s.inp.trapConfig.hvcDisabled = true) ∨
      (s.inp.cause = .smc ∧ s.inp.trapConfig.smcDisabled = true)) →
    exec i s = .next t →
    t = s ∨ ∃ c : EcClass, c ∉ ([.hvc32, .smc32, .hvc64, .smc64] : List EcClass) ∧
      Recorded (encodeEc c) (issFormat c) s t

/-- R66 and R97; the predicates and their exclusiveness are the spec's decision D9. -/
def Obligations.Sys64TrapRecordsOneOfFourCodes : Prop :=
  ∀ s : State, s.inp.cause = .sysAccess64 → fromAArch64 s → canTake s s.inp.target = true →
    s.inp.trapConfig.trapsCause = true →
    match s.inp.usesUnknown, s.inp.usesWfx, s.inp.usesSimdFp with
    | false, false, false => Records .ecSys64 s 0b011000#6 .sys64
    | true, false, false => Records .ecSys64 s 0b000000#6 .unknown
    | false, true, false => Records .ecSys64 s 0b000001#6 .wfx
    | false, false, true => Records .ecSys64 s 0b000111#6 .simdFp
    | _, _, _ => exec .ecSys64 s = .refused .exclusionsOverlap

/-- R25 (with R70 and R71); lower and current are read by the spec's decision D5. -/
def Obligations.InstructionAbortCodeDependsOnTheRelationOnly : Prop :=
  ∀ (s : State) (kind : InstrAbortKind), s.inp.cause = .instructionAbort kind → canTake s s.inp.target = true →
    (elRank s.inp.fromEl < targetRank s.inp.target → Records .ecIabtLower s 0b100000#6 .iabt) ∧
    (elRank s.inp.fromEl = targetRank s.inp.target → s.inp.execState = .aarch64 →
      Records .ecIabtCurrent s 0b100001#6 .iabt)

/-- R26 (with R73 and R74); lower and current are read by the spec's decision D5. -/
def Obligations.DataAbortCodeDoesNotDependOnTheKind : Prop :=
  ∀ (s : State) (kind : DataAbortKind), s.inp.cause = .dataAbort kind → canTake s s.inp.target = true →
    (kind = .alignmentFault → s.inp.misalignedData = true) →
    (elRank s.inp.fromEl < targetRank s.inp.target → Records .ecDabtLower s 0b100100#6 .dabt) ∧
    (elRank s.inp.fromEl = targetRank s.inp.target → s.inp.execState = .aarch64 →
      Records .ecDabtCurrent s 0b100101#6 .dabt)

/-- R72 and R75; the predicates are open by the spec's decision D14. -/
def Obligations.PcAndSpMisalignmentRecordTheirOwnCodes : Prop :=
  ∀ s : State, fromAArch64 s → canTake s s.inp.target = true →
    (s.inp.cause = .pcAlignment → s.inp.misalignedPc = true → Records .ecPcAlign s 0b100010#6 .illegalPcSp) ∧
    (s.inp.cause = .spAlignment → s.inp.misalignedSp = true → s.inp.spChecked = true →
      Records .ecSpAlign s 0b100110#6 .illegalPcSp)

/-- R76 and R77; the feature is an open parameter by the spec's decision D19. -/
def Obligations.FpExceptionRecordsEc101000Or101100 : Prop :=
  ∀ s : State, s.inp.cause = .fpException → canTake s s.inp.target = true →
    (fromAArch32 s → s.inp.target ≠ .el3 → s.params.hasA32FpTrap = true → Records .ecFpExc32 s 0b101000#6 .fpExc) ∧
    (fromAArch64 s → Records .ecFpExc64 s 0b101100#6 .fpExc)

/-- R111, which is the spec's decision D19: whatever the row and the cause, a step that goes on records another code. -/
def Obligations.WithoutTheA32FpTrapTheCodeStaysAllocatedAndIsNotRecorded : Prop :=
  (∀ (i : Instr) (s t : State), s.params.hasA32FpTrap = false → exec i s = .next t →
    t = s ∨ ((∀ u : Target, u ≠ s.inp.target → t.holder u = s.holder u) ∧
      ∃ y, t.holder s.inp.target = some y ∧ y.ec ≠ 0b101000#6)) ∧
  (∀ (i : Instr) (s t : State), s.inp.cause = .fpException → s.inp.execState = .aarch32 →
    s.params.hasA32FpTrap = false → exec i s ≠ .next t) ∧
  (∀ s : State, s.inp.cause = .fpException → fromAArch32 s → s.params.hasA32FpTrap = false →
    exec .ecFpExc32 s = .refused .a32FpTrapAbsent) ∧
  decodeEc 0b101000#6 = .allocated .fpExc32

/-- R78 and R102; when it is taken is open by the spec's decision D20 (log 18). -/
def Obligations.PendingSErrorRecordsEc101111 : Prop :=
  ∀ s : State, s.inp.cause = .sError → s.inp.sErrorPending = true → canTake s s.inp.target = true → fromAArch64 s →
    Records .ecSerror s 0b101111#6 .serror

/-- R80 to R85; marked levels and relation are read by the spec's decisions D3 and D5. -/
def Obligations.DebugEventsRecordTheCodeOfTheirRelation : Prop :=
  ∀ s : State, s.inp.execState = .aarch64 → s.inp.target ≠ .el3 → canTake s s.inp.target = true →
    (elRank s.inp.fromEl < targetRank s.inp.target →
      (s.inp.cause = .breakpoint → Records .ecBreakpointLower s 0b110000#6 .breakpointVcatch) ∧
      (s.inp.cause = .softwareStep → Records .ecSoftstepLower s 0b110010#6 .softstep) ∧
      (s.inp.cause = .watchpoint → Records .ecWatchpointLower s 0b110100#6 .watchpoint)) ∧
    (elRank s.inp.fromEl = targetRank s.inp.target →
      (s.inp.cause = .breakpoint → Records .ecBreakpointCurrent s 0b110001#6 .breakpointVcatch) ∧
      (s.inp.cause = .softwareStep → Records .ecSoftstepCurrent s 0b110011#6 .softstep) ∧
      (s.inp.cause = .watchpoint → Records .ecWatchpointCurrent s 0b110101#6 .watchpoint))

/-- R86 and R88; marked levels are read by the spec's decision D3. -/
def Obligations.BreakpointInstructionsRecordEc111000Or111100 : Prop :=
  ∀ s : State, canTake s s.inp.target = true →
    (s.inp.cause = .bkpt → fromAArch32 s → s.inp.target ≠ .el3 → Records .ecBkpt32 s 0b111000#6 .swBreakpoint) ∧
    (s.inp.cause = .brk → fromAArch64 s → Records .ecBrk64 s 0b111100#6 .swBreakpoint) ∧
    (s.inp.cause = .bkpt → fromAArch64 s → exec .ecBkpt32 s = .refused .wrongExecState) ∧
    (s.inp.cause = .brk → fromAArch32 s → exec .ecBrk64 s = .refused .wrongExecState)

/-- R87 with C2 (the spec's decision D4). -/
def Obligations.VectorCatchRecordsEc111010AtEl2 : Prop :=
  ∀ s : State, s.inp.cause = .vectorCatch → canTake s s.inp.target = true → fromEither s →
    (s.inp.target = .el2 → Records .ecVectorCatch32 s 0b111010#6 .breakpointVcatch) ∧
    (s.inp.target ≠ .el2 → exec .ecVectorCatch32 s = .refused .targetNotAdmitted)

/-- R28 (with R80, R81, R84, R85). -/
def Obligations.BreakpointAndWatchpointEventsAreNeverAborts : Prop :=
  ∀ (i : Instr) (s t : State), exec i s = .next t →
    (s.inp.cause = .breakpoint → ∃ y, t.holder s.inp.target = some y ∧ (y.ec = 0b110000#6 ∨ y.ec = 0b110001#6)) ∧
    (s.inp.cause = .watchpoint → ∃ y, t.holder s.inp.target = some y ∧ (y.ec = 0b110100#6 ∨ y.ec = 0b110101#6))

/-- R108: the six kinds, their codes and levels, and that a program can observe debug only as these nine classes; levels
and relation are read by the spec's decisions D3 and D5, the disabled call is D10. -/
def Obligations.DebugCausesAreRecordedOnlyWhereTheyAreMarked : Prop :=
  ∀ (i : Instr) (s t : State), exec i s = .next t →
    (isDebugCause s.inp.cause = true → ∃ y, t.holder s.inp.target = some y ∧
      ((s.inp.cause = .breakpoint ∧ s.inp.target ≠ .el3 ∧ (y.ec = 0b110000#6 ∨ y.ec = 0b110001#6)) ∨
        (s.inp.cause = .softwareStep ∧ s.inp.target ≠ .el3 ∧ (y.ec = 0b110010#6 ∨ y.ec = 0b110011#6)) ∨
        (s.inp.cause = .watchpoint ∧ s.inp.target ≠ .el3 ∧ (y.ec = 0b110100#6 ∨ y.ec = 0b110101#6)) ∨
        (s.inp.cause = .vectorCatch ∧ s.inp.target = .el2 ∧ y.ec = 0b111010#6) ∨
        (s.inp.cause = .bkpt ∧ s.inp.execState = .aarch32 ∧ s.inp.target ≠ .el3 ∧ y.ec = 0b111000#6) ∨
        (s.inp.cause = .brk ∧ s.inp.execState = .aarch64 ∧ y.ec = 0b111100#6))) ∧
    (∀ c : EcClass, Recorded (encodeEc c) (issFormat c) s t → 48 ≤ (encodeEc c).toNat →
      isDebugCause s.inp.cause = true ∨
        (s.params.disabledCallClass = some c ∧
          ((s.inp.cause = .hvc ∧ s.inp.trapConfig.hvcDisabled = true) ∨
            (s.inp.cause = .smc ∧ s.inp.trapConfig.smcDisabled = true))))

/-- R100 and R27, the parts about PC and SP. -/
def Obligations.MisalignedPcAndSpAreNeverAborts : Prop :=
  ∀ (i : Instr) (s t : State), exec i s = .next t →
    (s.inp.cause = .pcAlignment → ∃ y, t.holder s.inp.target = some y ∧ y.ec = 0b100010#6) ∧
    (s.inp.cause = .spAlignment → ∃ y, t.holder s.inp.target = some y ∧ y.ec = 0b100110#6)

/-- R91's first two lines and R92, under the spec's decisions D5 and D18. -/
def Obligations.RefusedRelationsRefuseEveryClassRow : Prop :=
  ∀ (i : Instr) (s : State), i.wf = true →
    (targetRank s.inp.target < elRank s.inp.fromEl → exec i s = .refused .fromAboveTarget) ∧
    (elRank s.inp.fromEl = targetRank s.inp.target → s.inp.execState = .aarch32 →
      exec i s = .refused .aarch32AtCurrentLevel)

/-- R12 to R14, R27, R102, R109, U7 and U12; that the model refuses here is its choice (log 11, 21, 27). -/
def Obligations.CausesThatDoNotExistAreRefused : Prop :=
  ∀ (i : Instr) (s : State), i.wf = true → fromEither s →
    (s.inp.cause = .illegalExecutionState → s.inp.pstateIl ≠ 1#1 → exec i s = .refused .causeDoesNotExist) ∧
    (s.inp.cause = .pcAlignment → s.inp.misalignedPc = false → exec i s = .refused .causeDoesNotExist) ∧
    (s.inp.cause = .spAlignment → (s.inp.misalignedSp && s.inp.spChecked) = false →
      exec i s = .refused .causeDoesNotExist) ∧
    (s.inp.cause = .dataAbort .alignmentFault → s.inp.misalignedData = false →
      exec i s = .refused .causeDoesNotExist) ∧
    (s.inp.cause = .sError → s.inp.sErrorPending = false → exec i s = .refused .causeDoesNotExist) ∧
    (∀ w, s.inp.cause = .wfx w true → s.inp.trapConfig.trapsCause = false → exec i s = .refused .untrappedWait) ∧
    ((s.inp.cause = .simdFpAccess ∨ s.inp.cause = .sysAccess64 ∨ ∃ cp kind, s.inp.cause = .coprocAccess cp kind) →
      s.inp.trapConfig.trapsCause = false → exec i s = .refused .untrappedAccess) ∧
    (s.inp.cause = .coprocAccess .cp14 .ldcStc → s.inp.trapConfig.trapsCause = true →
      s.inp.ldcStcReg = some .other → exec i s = .refused .unarchitectedCp14Use)

/-- R123's step. That presentations stand in a list, and how one selects a row, is the model's choice (log 1, log 2). -/
def Obligations.StepRunsTheDecodedRow : Prop :=
  ∀ (s : State) (p : Presentation) (rest : List Presentation) (i : Instr), s.pending = p :: rest →
    (∀ b : Byte, p.event = .code b → decode [b] = .ok i → step s = exec i (s.latch p.inputs rest)) ∧
    (∀ rel : Relation, p.event = .causes [] → checkedRelation p.inputs = .ok rel → selectRow p.inputs rel = .ok i →
      step s = exec i (s.latch p.inputs rest))

/-- R90, R91 and R123: the rows R50 to R88 together are `classify`. The step as one call is the spec's decision D25. -/
def Obligations.StepOnAPresentedCauseIsClassifyThenReport : Prop :=
  ∀ (s : State) (inputs : Inputs) (rest : List Presentation),
    s.pending = { inputs := inputs, event := .causes [] } :: rest → causeStop inputs = none →
    step s = outcomeOf (classify s.params inputs) (s.latch inputs rest)

/-- R112, R113 and R111's 'never recorded' as an invariant, under the spec's decisions D2, D3, D18 and D19; the ISS
bound is the model's (log 7). -/
def Obligations.StepKeepsEverySyndromeLegal : Prop :=
  ∀ s t : State, s.legal = true → step s = .next t → t.legal = true

/-- R22, R120 and R121: the spec's decisions D16 and D26. The list is the model's (log 2). That the reads at EL2 and EL3
fault, and are not refused for an absent level, rests on the model's choice of `HAS_EL2` and `HAS_EL3` true at reset
(log 4). -/
def Obligations.ResetLeavesEverySyndromeUnwritten : Prop :=
  (∀ t : Target, State.reset.holder t = none) ∧ State.reset.pending = [] ∧ State.reset.legal = true ∧
  (∀ t : Target, handlerRead t State.reset = .fault (.unwrittenSyndrome t)) ∧
  step State.reset = .refused .awaitingPresentation

/-- The invariant along runs; parameters are constant (log 4). -/
def Obligations.RunsKeepEverySyndromeLegal : Prop :=
  ∀ (k : Nat) (s t : State), s.legal = true → Sys2Proof.core.run k s = .next t →
    t.legal = true ∧ t.params = s.params

/-- D12: nothing but R90 changes a syndrome; the other levels' holders by D2. -/
def Obligations.OnlyAReportChangesASyndrome : Prop :=
  ∀ s t : State, step s = .next t →
    t.params = s.params ∧ (∃ p, s.pending = p :: t.pending ∧
      ∀ u : Target, t.holder u ≠ s.holder u →
        ((∃ others, p.event = .causes others) ∨ ∃ b, p.event = .code b) ∧ u = t.inp.target)

/-- R105 and D12; what else a return does is open (log 17). That an event without a cause goes on whatever the report's
predicates say is the model's choice (log 31). -/
def Obligations.ReturnsAndStepsWithoutACauseWriteNothing : Prop :=
  ∀ (s : State) (p : Presentation) (rest : List Presentation), s.pending = p :: rest →
    (p.event = .exceptionReturn ∨ p.event = .noCause) → step s = .next (s.latch p.inputs rest)

/-- R113; the fault is the spec's decision D16, the reached arm the model's record of it (log 23). -/
def Obligations.HandlerReadReachesTheArmOfTheRecordedClass : Prop :=
  ∀ (s : State) (p : Presentation) (rest : List Presentation) (u : Target), s.legal = true →
    s.pending = p :: rest → p.event = .handlerRead u → levelPresent s.params u = true →
    (s.holder u = none → step s = .fault (.unwrittenSyndrome u)) ∧
    (∀ y, s.holder u = some y → ∃ c : EcClass, y.ec = encodeEc c ∧ targetOk s.params c u = true ∧
      step s = .next ((s.latch p.inputs rest).setHandled u c))

/-- 95 section 3.4 with R33, R40, R41; the spec's decisions D2 and D7. -/
def Obligations.HandlerOfAnOutsideWordDispatchesOnItsCode : Prop :=
  ∀ (s : State) (p : Presentation) (rest : List Presentation) (u : Target) (w : Nat),
    s.pending = p :: rest → p.event = .handlerWord u w → levelPresent s.params u = true →
    (∀ c : EcClass, ecOfWord s.params.ecLsb (BitVec.ofNat s.params.wordWidth w) = encodeEc c →
      targetOk s.params c u = true → step s = .next ((s.latch p.inputs rest).setHandled u c)) ∧
    ∀ v : EcCode, ecOfWord s.params.ecLsb (BitVec.ofNat s.params.wordWidth w) = v → decodeEc v = .reserved v →
      step s = .refused (.reservedCode v)

/-- R112 and the end state of 95 section 3.4; the spec's decision D7. -/
def Obligations.ARunFromALegalStateNeverMeetsAReservedCode : Prop :=
  ∀ (k : Nat) (s : State) (v : EcCode), s.legal = true → (∀ p ∈ s.pending, isInternalEvent p.event = true) →
    Sys2Proof.core.run k s ≠ .refused (.reservedCode v)

/-- R105 and R122 (a), and the independence of holders (95 section 3.2): the spec's decisions D2 and D12. -/
def Obligations.TwoExceptionsOverwriteAtOneLevelAndKeepApartAtTwo : Prop :=
  ∀ (s : State) (a b : Inputs) (rest : List Presentation) (c d : EcClass),
    s.pending = { inputs := a, event := .causes [] } :: { inputs := b, event := .causes [] } :: rest →
    causeStop a = none → causeStop b = none → classify s.params a = .cls c → classify s.params b = .cls d →
    ∃ t : State, Sys2Proof.core.run 2 s = .next t ∧ t.pending = rest ∧
      (∃ y, t.holder b.target = some y ∧ y.ec = encodeEc d) ∧
      (a.target ≠ b.target → ∃ y, t.holder a.target = some y ∧ y.ec = encodeEc c) ∧
      ∀ u : Target, u ≠ a.target → u ≠ b.target → t.holder u = s.holder u

/-- R91's last paragraph and R123: the function is pure. Of the pair recorded this is the code; the ISS is a fresh free
value (log 7). -/
def Obligations.RecordedCodeIsAFunctionOfTheReport : Prop :=
  ∀ (s s' : State) (p : Presentation) (rest rest' : List Presentation), s.params = s'.params →
    s.pending = p :: rest → s'.pending = p :: rest' →
    ((∃ others, p.event = .causes others) ∨ ∃ b, p.event = .code b) →
    (∀ r, step s = .refused r ↔ step s' = .refused r) ∧
    ∀ t, step s = .next t → ∃ t', step s' = .next t' ∧
      ∀ u : Target, (t.holder u = s.holder u ∧ t'.holder u = s'.holder u) ∨
        ∃ y y', t.holder u = some y ∧ t'.holder u = some y' ∧ y.ec = y'.ec

/-- R103 under the spec's decision D21, for every priority relation (log 19). -/
def Obligations.PriorityPresentsOneOfTheCauses : Prop :=
  ∀ (s : State) (first : Inputs) (others : List Inputs) (rest : List Presentation),
    s.pending = { inputs := first, event := .causes others } :: rest →
    ∃ c : Inputs, c ∈ first :: others ∧
      step s = step { s with pending := { inputs := c, event := .causes [] } :: rest }

/-- 95 section 2.8 and R112; defaults are the model's (log 4, 5), admission the spec's decisions D3, D4, D18. -/
def Obligations.ClassifyReachesEveryClassAndOnlyAdmittedOnes : Prop :=
  (∀ c : EcClass, ∃ inp : Inputs, causeStop inp = none ∧ classify Params.vectorDefaults inp = .cls c) ∧
  ∀ (p : Params) (inp : Inputs) (c : EcClass), classify p inp = .cls c →
    fromOk c inp.execState = true ∧ targetOk p c inp.target = true ∧ decodeEc (encodeEc c) = .allocated c

/-- The model's choice for codes from outside (log 30), with the diversions of R95 to R97 and R99. -/
def Obligations.ARowFromOutsideRunsOnlyForItsCause : Prop :=
  ∀ (c : EcClass) (s t : State), exec c.row s = .next t →
    (∃ rel, checkedRelation s.inp = .ok rel ∧ selectRow s.inp rel = .ok c.row) ∨ classify s.params s.inp = .cls c
end

