-- ==== Sys2Proof/Laws/State.lean ====
section
/-! SUPPORT. The small lemmas of the state's updates: what each leaves and what it sets, true by computation. -/

namespace Sys2Proof.Machine

@[simp] theorem holder_el1 (s : State) : s.holder .el1 = s.syndromeEL1 := rfl
@[simp] theorem holder_el2 (s : State) : s.holder .el2 = s.syndromeEL2 := rfl
@[simp] theorem holder_el3 (s : State) : s.holder .el3 = s.syndromeEL3 := rfl

@[simp] theorem setHolder_params (s : State) (t : Target) (y : Syndrome) : (s.setHolder t y).params = s.params := by
  cases t <;> rfl
@[simp] theorem setHolder_inp (s : State) (t : Target) (y : Syndrome) : (s.setHolder t y).inp = s.inp := by
  cases t <;> rfl
@[simp] theorem setHolder_pending (s : State) (t : Target) (y : Syndrome) : (s.setHolder t y).pending = s.pending := by
  cases t <;> rfl
@[simp] theorem setHolder_issDraws (s : State) (t : Target) (y : Syndrome) :
    (s.setHolder t y).issDraws = s.issDraws := by
  cases t <;> rfl
@[simp] theorem setHolder_handled (s : State) (t : Target) (y : Syndrome) : (s.setHolder t y).handled = s.handled := by
  cases t <;> rfl
@[simp] theorem setHolder_holder_self (s : State) (t : Target) (y : Syndrome) : (s.setHolder t y).holder t = some y := by
  cases t <;> rfl
theorem setHolder_holder_other (s : State) {t u : Target} (y : Syndrome) (h : u ≠ t) :
    (s.setHolder t y).holder u = s.holder u := by
  cases t <;> cases u <;> first | rfl | exact absurd rfl h

@[simp] theorem latch_params (s : State) (inp : Inputs) (r : List Presentation) : (s.latch inp r).params = s.params := rfl
@[simp] theorem latch_inp (s : State) (inp : Inputs) (r : List Presentation) : (s.latch inp r).inp = inp := rfl
@[simp] theorem latch_pending (s : State) (inp : Inputs) (r : List Presentation) : (s.latch inp r).pending = r := rfl
@[simp] theorem latch_issDraws (s : State) (inp : Inputs) (r : List Presentation) :
    (s.latch inp r).issDraws = s.issDraws := rfl
@[simp] theorem latch_handled (s : State) (inp : Inputs) (r : List Presentation) : (s.latch inp r).handled = s.handled := rfl
@[simp] theorem latch_holder (s : State) (inp : Inputs) (r : List Presentation) (t : Target) :
    (s.latch inp r).holder t = s.holder t := by
  cases t <;> rfl

@[simp] theorem setHandled_params (s : State) (t : Target) (c : EcClass) : (s.setHandled t c).params = s.params := rfl
@[simp] theorem setHandled_inp (s : State) (t : Target) (c : EcClass) : (s.setHandled t c).inp = s.inp := rfl
@[simp] theorem setHandled_pending (s : State) (t : Target) (c : EcClass) : (s.setHandled t c).pending = s.pending := rfl
@[simp] theorem setHandled_issDraws (s : State) (t : Target) (c : EcClass) : (s.setHandled t c).issDraws = s.issDraws := rfl
@[simp] theorem setHandled_handled (s : State) (t : Target) (c : EcClass) :
    (s.setHandled t c).handled = some (t, c) := rfl
@[simp] theorem setHandled_holder (s : State) (t u : Target) (c : EcClass) :
    (s.setHandled t c).holder u = s.holder u := by
  cases u <;> rfl

@[simp] theorem countDraw_params (s : State) : s.countDraw.params = s.params := rfl
@[simp] theorem countDraw_inp (s : State) : s.countDraw.inp = s.inp := rfl
@[simp] theorem countDraw_pending (s : State) : s.countDraw.pending = s.pending := rfl
@[simp] theorem countDraw_handled (s : State) : s.countDraw.handled = s.handled := rfl
@[simp] theorem countDraw_issDraws (s : State) : s.countDraw.issDraws = s.issDraws + 1 := rfl
@[simp] theorem countDraw_holder (s : State) (u : Target) : s.countDraw.holder u = s.holder u := by
  cases u <;> rfl

@[simp] theorem raiseException_params (ec : EcCode) (fmt : IssFormat) (s : State) :
    (raiseException ec fmt s).params = s.params := by
  simp [raiseException]
@[simp] theorem raiseException_inp (ec : EcCode) (fmt : IssFormat) (s : State) :
    (raiseException ec fmt s).inp = s.inp := by
  simp [raiseException]
@[simp] theorem raiseException_pending (ec : EcCode) (fmt : IssFormat) (s : State) :
    (raiseException ec fmt s).pending = s.pending := by
  simp [raiseException]
@[simp] theorem raiseException_handled (ec : EcCode) (fmt : IssFormat) (s : State) :
    (raiseException ec fmt s).handled = s.handled := by
  simp [raiseException]
@[simp] theorem raiseException_issDraws (ec : EcCode) (fmt : IssFormat) (s : State) :
    (raiseException ec fmt s).issDraws = s.issDraws + 1 := by
  simp [raiseException]
@[simp] theorem raiseException_holder_target (ec : EcCode) (fmt : IssFormat) (s : State) :
    (raiseException ec fmt s).holder s.inp.target = some { ec := ec, iss := drawIss fmt s } := by
  simp [raiseException]
theorem raiseException_holder_other (ec : EcCode) (fmt : IssFormat) (s : State) {u : Target} (h : u ≠ s.inp.target) :
    (raiseException ec fmt s).holder u = s.holder u := by
  simp [raiseException, setHolder_holder_other s _ h]

end Sys2Proof.Machine
end

