-- ==== Sys2Proof/Laws/Ops.lean ====
section
/-! SUPPORT. One lemma for each shared operation, saying once what it can do. -/

namespace Sys2Proof.Machine

theorem relation_eq_lower {f : El} {t : Target} : relation f t = some .lower ↔ elRank f < targetRank t := by
  cases f <;> cases t <;> decide

theorem relation_eq_current {f : El} {t : Target} : relation f t = some .current ↔ elRank f = targetRank t := by
  cases f <;> cases t <;> decide

theorem relation_eq_none {f : El} {t : Target} : relation f t = none ↔ targetRank t < elRank f := by
  cases f <;> cases t <;> decide

/-- The relation R91 goes on with, for a cause from a lower level. -/
theorem checkedRelation_lower {inp : Inputs} (h : elRank inp.fromEl < targetRank inp.target) :
    checkedRelation inp = .ok .lower := by
  simp [checkedRelation, relation_eq_lower.2 h]

/-- The relation R91 goes on with, for an AArch64 cause at the target level. -/
theorem checkedRelation_current {inp : Inputs} (h : elRank inp.fromEl = targetRank inp.target)
    (h64 : inp.execState = .aarch64) : checkedRelation inp = .ok .current := by
  simp [checkedRelation, relation_eq_current.2 h, h64]

theorem checkedRelation_above {inp : Inputs} (h : targetRank inp.target < elRank inp.fromEl) :
    checkedRelation inp = .error .fromAboveTarget := by
  simp [checkedRelation, relation_eq_none.2 h]

theorem checkedRelation_aarch32_current {inp : Inputs} (h : elRank inp.fromEl = targetRank inp.target)
    (h32 : inp.execState = .aarch32) : checkedRelation inp = .error .aarch32AtCurrentLevel := by
  simp [checkedRelation, relation_eq_current.2 h, h32]

/-- The class an arm yields is admitted exactly where R93 and R94 say so. -/
theorem admission_eq_none {p : Params} {c : EcClass} {s : ExecState} {t : Target} :
    admission p c s t = none ↔ fromOk c s = true ∧ targetOk p c t = true := by
  unfold admission targetOk
  cases fromOk c s <;> cases targetFlag c t <;> cases levelPresent p t <;> cases targetUsesAArch64 p t <;> simp

/-- No check of admission is about a reserved code. -/
theorem admission_ne_reserved {p : Params} {c : EcClass} {s : ExecState} {t : Target} {v : EcCode} :
    admission p c s t ≠ some (.reservedCode v) := by
  unfold admission
  split
  · simp
  split
  · simp
  split
  · simp
  split <;> simp

/-- Everything `reportClass` can do when it goes on. -/
theorem reportClass_next {c : EcClass} {s t : State} (h : reportClass c s = .next t) :
    fromOk c s.inp.execState = true ∧ targetOk s.params c s.inp.target = true ∧ t = takeException c s := by
  unfold reportClass at h
  split at h
  · cases h
  · rename_i ha
    cases h
    exact ⟨(admission_eq_none.1 ha).1, (admission_eq_none.1 ha).2, rfl⟩

/-- Everything a row's frame can do when it goes on: nothing, or the report of the class its arm yields. -/
theorem runArm_next {arm : Relation → Arm} {s t : State} (h : runArm arm s = .next t) :
    ∃ rel, checkedRelation s.inp = .ok rel ∧ causeStop s.inp = none ∧
      ((arm rel = .noException ∧ t = s) ∨ ∃ c, arm rel = .cls c ∧ reportClass c s = .next t) := by
  unfold runArm at h
  split at h
  · cases h
  rename_i rel hr
  split at h
  · cases h
  rename_i hs
  split at h
  · cases h
  · rename_i ha
    cases h
    exact ⟨rel, hr, hs, .inl ⟨ha, rfl⟩⟩
  · rename_i c ha
    exact ⟨rel, hr, hs, .inr ⟨c, ha, h⟩⟩

/-- A row's frame on a cause that exists, once the relation is settled. -/
theorem runArm_of_ok {arm : Relation → Arm} {s : State} {rel : Relation} (hr : checkedRelation s.inp = .ok rel)
    (hs : causeStop s.inp = none) :
    runArm arm s = match arm rel with
      | .refuse r => .refused r
      | .noException => .next s
      | .cls c => reportClass c s := by
  simp [runArm, hr, hs] <;> rfl

/-- Everything a disabled call that yields a class can yield. -/
theorem disabledCall_cls {p : Params} {c : EcClass} (h : disabledCall p = .cls c) :
    p.disabledCallClass = some c ∧ p.canRecord c = true := by
  unfold disabledCall require at h
  split at h
  · cases h
  rename_i hd
  split at h
  · rename_i hc
    cases h
    exact ⟨hd, hc⟩
  · cases h

/-- A disabled call gives no exception only where the parameter is `NoException`. -/
theorem disabledCall_noException {p : Params} : disabledCall p = .noException ↔ p.disabledCallClass = none := by
  unfold disabledCall require
  split
  · simp_all
  · split <;> simp_all

/-- No arm of R91 yields a class whose code R111 has never recorded. -/
theorem causeArm_cls_canRecord {p : Params} {inp : Inputs} {rel : Relation} {c : EcClass}
    (h : causeArm p inp rel = .cls c) : p.canRecord c = true := by
  by_cases hc : c = .fpExc32
  · subst hc
    cases hi : inp.cause with
    | coprocAccess cp kind =>
      cases cp <;> cases kind <;> simp only [causeArm, hi, require] at h <;> (repeat' split at h) <;> cases h
    | hvc =>
      simp only [causeArm, hi] at h
      split at h
      · exact (disabledCall_cls h).2
      · split at h <;> cases h
    | smc =>
      simp only [causeArm, hi] at h
      split at h
      · exact (disabledCall_cls h).2
      · split at h <;> cases h
    | fpException =>
      simp only [causeArm, hi, require] at h
      repeat' split at h
      all_goals simp_all [Params.canRecord]
    | _ =>
      simp only [causeArm, hi, require] at h
      repeat' split at h
      all_goals cases h
  · simp [Params.canRecord, hc]

/-- A row supplied for a cause that is not its own yields the row's class or nothing. -/
theorem divertedTo_cls {c c' : EcClass} {s : State} {rel : Relation} (h : divertedTo c s rel = .cls c') :
    c' = c ∧ causeArm s.params s.inp rel = .cls c := by
  unfold divertedTo at h
  split at h
  · rename_i d hd
    split at h
    · rename_i he
      cases h
      exact ⟨rfl, he ▸ hd⟩
    · cases h
  · cases h

theorem divertedTo_ne_noException {c : EcClass} {s : State} {rel : Relation} : divertedTo c s rel ≠ .noException := by
  unfold divertedTo
  split
  · split <;> simp
  · simp

/-- Everything a handler's dispatch can do when it goes on. -/
theorem handlerDispatch_next {u : Target} {ec : EcCode} {s t : State} (h : handlerDispatch u ec s = .next t) :
    ∃ c, decodeEc ec = .allocated c ∧ targetOk s.params c u = true ∧ t = s.setHandled u c := by
  unfold handlerDispatch at h
  split at h
  · cases h
  rename_i c hc
  split at h
  · rename_i hok
    cases h
    exact ⟨c, hc, hok, rfl⟩
  · cases h

/-- Everything a handler's read can do when it goes on. -/
theorem handlerRead_next {u : Target} {s t : State} (h : handlerRead u s = .next t) :
    ∃ y c, s.holder u = some y ∧ decodeEc y.ec = .allocated c ∧ targetOk s.params c u = true ∧
      t = s.setHandled u c := by
  unfold handlerRead at h
  split at h
  · cases h
  split at h
  · cases h
  rename_i y hy
  obtain ⟨c, hc, hok, rfl⟩ := handlerDispatch_next h
  exact ⟨y, c, hy, hc, hok, rfl⟩

/-- Everything a handler given a word can do when it goes on. -/
theorem handlerWord_next {u : Target} {w : Nat} {s t : State} (h : handlerWord u w s = .next t) :
    ∃ c, targetOk s.params c u = true ∧ t = s.setHandled u c := by
  unfold handlerWord at h
  split at h
  · cases h
  obtain ⟨c, _, hok, rfl⟩ := handlerDispatch_next h
  exact ⟨c, hok, rfl⟩

theorem selectByPriority_mem (first : Inputs) (others : List Inputs) :
    selectByPriority first others = first ∨ selectByPriority first others ∈ others := by
  unfold selectByPriority
  induction others generalizing first with
  | nil => exact .inl rfl
  | cons x xs ih =>
    rw [List.foldl_cons]
    rcases ih (if Config.priority x.cause first.cause then x else first) with h | h
    · rw [h]
      split
      · exact .inr (List.mem_cons_self ..)
      · exact .inl rfl
    · exact .inr (List.mem_cons_of_mem _ h)

end Sys2Proof.Machine
end

