-- ==== Sys2Proof/Laws/PerInstr.lean ====
section
/-! SUPPORT. Per-instruction facts about the rows as syntax. -/

namespace Sys2Proof.Laws.EncodingShape

/-- A row's code is one byte with its two spare bits clear, and that byte decodes to the row (R4, R39, R40). -/
def Statement (i : Instr) : Prop :=
  ∃ b : Byte, encode i = [b] ∧ b.toNat < 64 ∧ decode [b] = .ok i

theorem ecUnknown : Statement .ecUnknown := ⟨0b000000#8, rfl, by decide, rfl⟩
theorem ecWfx : Statement .ecWfx := ⟨0b000001#8, rfl, by decide, rfl⟩
theorem reserved02 : Statement .reserved02 := ⟨0b000010#8, rfl, by decide, rfl⟩
theorem ecCp15McrMrc : Statement .ecCp15McrMrc := ⟨0b000011#8, rfl, by decide, rfl⟩
theorem ecCp15McrrMrrc : Statement .ecCp15McrrMrrc := ⟨0b000100#8, rfl, by decide, rfl⟩
theorem ecCp14McrMrc : Statement .ecCp14McrMrc := ⟨0b000101#8, rfl, by decide, rfl⟩
theorem ecCp14LdcStc : Statement .ecCp14LdcStc := ⟨0b000110#8, rfl, by decide, rfl⟩
theorem ecSimdFpAccess : Statement .ecSimdFpAccess := ⟨0b000111#8, rfl, by decide, rfl⟩
theorem ecCp10Id : Statement .ecCp10Id := ⟨0b001000#8, rfl, by decide, rfl⟩
theorem reserved09 : Statement .reserved09 := ⟨0b001001#8, rfl, by decide, rfl⟩
theorem reserved0A : Statement .reserved0A := ⟨0b001010#8, rfl, by decide, rfl⟩
theorem reserved0B : Statement .reserved0B := ⟨0b001011#8, rfl, by decide, rfl⟩
theorem ecCp14McrrMrrc : Statement .ecCp14McrrMrrc := ⟨0b001100#8, rfl, by decide, rfl⟩
theorem reserved0D : Statement .reserved0D := ⟨0b001101#8, rfl, by decide, rfl⟩
theorem ecIllegalState : Statement .ecIllegalState := ⟨0b001110#8, rfl, by decide, rfl⟩
theorem reserved0F : Statement .reserved0F := ⟨0b001111#8, rfl, by decide, rfl⟩
theorem reserved10 : Statement .reserved10 := ⟨0b010000#8, rfl, by decide, rfl⟩
theorem ecSvc32 : Statement .ecSvc32 := ⟨0b010001#8, rfl, by decide, rfl⟩
theorem ecHvc32 : Statement .ecHvc32 := ⟨0b010010#8, rfl, by decide, rfl⟩
theorem ecSmc32 : Statement .ecSmc32 := ⟨0b010011#8, rfl, by decide, rfl⟩
theorem reserved14 : Statement .reserved14 := ⟨0b010100#8, rfl, by decide, rfl⟩
theorem ecSvc64 : Statement .ecSvc64 := ⟨0b010101#8, rfl, by decide, rfl⟩
theorem ecHvc64 : Statement .ecHvc64 := ⟨0b010110#8, rfl, by decide, rfl⟩
theorem ecSmc64 : Statement .ecSmc64 := ⟨0b010111#8, rfl, by decide, rfl⟩
theorem ecSys64 : Statement .ecSys64 := ⟨0b011000#8, rfl, by decide, rfl⟩
theorem reserved19 : Statement .reserved19 := ⟨0b011001#8, rfl, by decide, rfl⟩
theorem reserved1A : Statement .reserved1A := ⟨0b011010#8, rfl, by decide, rfl⟩
theorem reserved1B : Statement .reserved1B := ⟨0b011011#8, rfl, by decide, rfl⟩
theorem reserved1C : Statement .reserved1C := ⟨0b011100#8, rfl, by decide, rfl⟩
theorem reserved1D : Statement .reserved1D := ⟨0b011101#8, rfl, by decide, rfl⟩
theorem reserved1E : Statement .reserved1E := ⟨0b011110#8, rfl, by decide, rfl⟩
theorem reserved1F : Statement .reserved1F := ⟨0b011111#8, rfl, by decide, rfl⟩
theorem ecIabtLower : Statement .ecIabtLower := ⟨0b100000#8, rfl, by decide, rfl⟩
theorem ecIabtCurrent : Statement .ecIabtCurrent := ⟨0b100001#8, rfl, by decide, rfl⟩
theorem ecPcAlign : Statement .ecPcAlign := ⟨0b100010#8, rfl, by decide, rfl⟩
theorem reserved23 : Statement .reserved23 := ⟨0b100011#8, rfl, by decide, rfl⟩
theorem ecDabtLower : Statement .ecDabtLower := ⟨0b100100#8, rfl, by decide, rfl⟩
theorem ecDabtCurrent : Statement .ecDabtCurrent := ⟨0b100101#8, rfl, by decide, rfl⟩
theorem ecSpAlign : Statement .ecSpAlign := ⟨0b100110#8, rfl, by decide, rfl⟩
theorem reserved27 : Statement .reserved27 := ⟨0b100111#8, rfl, by decide, rfl⟩
theorem ecFpExc32 : Statement .ecFpExc32 := ⟨0b101000#8, rfl, by decide, rfl⟩
theorem reserved29 : Statement .reserved29 := ⟨0b101001#8, rfl, by decide, rfl⟩
theorem reserved2A : Statement .reserved2A := ⟨0b101010#8, rfl, by decide, rfl⟩
theorem reserved2B : Statement .reserved2B := ⟨0b101011#8, rfl, by decide, rfl⟩
theorem ecFpExc64 : Statement .ecFpExc64 := ⟨0b101100#8, rfl, by decide, rfl⟩
theorem reserved2D : Statement .reserved2D := ⟨0b101101#8, rfl, by decide, rfl⟩
theorem reserved2E : Statement .reserved2E := ⟨0b101110#8, rfl, by decide, rfl⟩
theorem ecSerror : Statement .ecSerror := ⟨0b101111#8, rfl, by decide, rfl⟩
theorem ecBreakpointLower : Statement .ecBreakpointLower := ⟨0b110000#8, rfl, by decide, rfl⟩
theorem ecBreakpointCurrent : Statement .ecBreakpointCurrent := ⟨0b110001#8, rfl, by decide, rfl⟩
theorem ecSoftstepLower : Statement .ecSoftstepLower := ⟨0b110010#8, rfl, by decide, rfl⟩
theorem ecSoftstepCurrent : Statement .ecSoftstepCurrent := ⟨0b110011#8, rfl, by decide, rfl⟩
theorem ecWatchpointLower : Statement .ecWatchpointLower := ⟨0b110100#8, rfl, by decide, rfl⟩
theorem ecWatchpointCurrent : Statement .ecWatchpointCurrent := ⟨0b110101#8, rfl, by decide, rfl⟩
theorem reserved36 : Statement .reserved36 := ⟨0b110110#8, rfl, by decide, rfl⟩
theorem reserved37 : Statement .reserved37 := ⟨0b110111#8, rfl, by decide, rfl⟩
theorem ecBkpt32 : Statement .ecBkpt32 := ⟨0b111000#8, rfl, by decide, rfl⟩
theorem reserved39 : Statement .reserved39 := ⟨0b111001#8, rfl, by decide, rfl⟩
theorem ecVectorCatch32 : Statement .ecVectorCatch32 := ⟨0b111010#8, rfl, by decide, rfl⟩
theorem reserved3B : Statement .reserved3B := ⟨0b111011#8, rfl, by decide, rfl⟩
theorem ecBrk64 : Statement .ecBrk64 := ⟨0b111100#8, rfl, by decide, rfl⟩
theorem reserved3D : Statement .reserved3D := ⟨0b111101#8, rfl, by decide, rfl⟩
theorem reserved3E : Statement .reserved3E := ⟨0b111110#8, rfl, by decide, rfl⟩
theorem reserved3F : Statement .reserved3F := ⟨0b111111#8, rfl, by decide, rfl⟩

end Sys2Proof.Laws.EncodingShape
end

