-- ==== Sys2Proof/Laws/Step.lean ====
section
/-! SUPPORT. What a row, the fetch and the step can do, said once. -/

namespace Sys2Proof.Machine

/-- The decoder on an encoded row. -/
theorem decode_encode (i : Instr) : decode (encode i) = .ok i := by
  cases i <;> rfl

/-- The decoder of six bits on the code of a class (R40). -/
@[simp] theorem decodeEc_encodeEc (c : EcClass) : decodeEc (encodeEc c) = .allocated c := by
  cases c <;> rfl

/-- A presented cause selects a row that is a class, never a reserved one (R112). -/
theorem selectRow_cls {inp : Inputs} {rel : Relation} {i : Instr} (h : selectRow inp rel = .ok i) :
    i.cls.isSome = true := by
  unfold selectRow at h
  split at h <;> first
    | (cases h; rfl)
    | (cases h; split <;> rfl)
    | cases h

/-- Everything a presented cause can fetch: the code of a row of a class. -/
theorem fetchCause_run {s s' : State} {bytes : List Byte} (h : fetchCause s = .run bytes s') :
    s' = s ∧ ∃ rel i, checkedRelation s.inp = .ok rel ∧ selectRow s.inp rel = .ok i ∧ bytes = encode i := by
  unfold fetchCause at h
  split at h
  · cases h
  rename_i rel hr
  split at h
  · cases h
  rename_i i hi
  cases h
  exact ⟨rfl, rel, i, hr, hi, rfl⟩

/-- A presented cause that fetches no row is refused. -/
theorem fetchCause_done {s : State} {o : Result} (h : fetchCause s = .done o) : ∃ r, o = .refused r := by
  unfold fetchCause at h
  split at h
  · cases h; exact ⟨_, rfl⟩
  split at h
  · cases h; exact ⟨_, rfl⟩
  · cases h

/-- Everything a step can do when it goes on: it took the front presentation, and ran a row on the report taken in,
or served a handler, or went on with nothing done. -/
theorem step_next {s t : State} (h : step s = .next t) :
    ∃ p rest, s.pending = p :: rest ∧
      ((∃ inp i, exec i (s.latch inp rest) = .next t ∧
          ((∃ others, p.event = .causes others ∧ inp = selectByPriority p.inputs others) ∨
            ∃ b, p.event = .code b ∧ inp = p.inputs ∧ decode [b] = .ok i)) ∨
        (∃ u c, targetOk s.params c u = true ∧ t = (s.latch p.inputs rest).setHandled u c ∧
          (p.event = .handlerRead u ∨ ∃ w, p.event = .handlerWord u w)) ∨
        (t = s.latch p.inputs rest ∧ (p.event = .exceptionReturn ∨ p.event = .noCause))) := by
  unfold step fetch at h
  cases hp : s.pending with
  | nil => simp [hp] at h
  | cons p rest =>
    refine ⟨p, rest, rfl, ?_⟩
    simp only [hp] at h
    cases he : p.event with
    | causes others =>
      simp only [he] at h
      cases hf : fetchCause (s.latch (selectByPriority p.inputs others) rest) with
      | done o =>
        simp only [hf] at h
        obtain ⟨r, rfl⟩ := fetchCause_done hf
        cases h
      | run bytes s' =>
        simp only [hf] at h
        obtain ⟨rfl, rel, i, _, _, rfl⟩ := fetchCause_run hf
        rw [decode_encode] at h
        exact .inl ⟨_, i, h, .inl ⟨others, rfl, rfl⟩⟩
    | code b =>
      simp only [he] at h
      cases hd : decode [b] with
      | error e => simp [hd] at h
      | ok i =>
        simp only [hd] at h
        exact .inl ⟨_, i, h, .inr ⟨b, rfl, rfl, hd⟩⟩
    | handlerRead u =>
      simp only [he] at h
      obtain ⟨y, c, _, _, hok, rfl⟩ := handlerRead_next h
      exact .inr (.inl ⟨u, c, hok, rfl, .inl rfl⟩)
    | handlerWord u w =>
      simp only [he] at h
      obtain ⟨c, hok, rfl⟩ := handlerWord_next h
      exact .inr (.inl ⟨u, c, hok, rfl, .inr ⟨w, rfl⟩⟩)
    | exceptionReturn =>
      simp only [he] at h
      cases h
      exact .inr (.inr ⟨rfl, .inl rfl⟩)
    | noCause =>
      simp only [he] at h
      cases h
      exact .inr (.inr ⟨rfl, .inr rfl⟩)

/-- A row supplied for a cause that is not its own yields what R91 yields, or is refused. -/
theorem divertedTo_eq (c : EcClass) (s : State) (rel : Relation) :
    divertedTo c s rel = causeArm s.params s.inp rel ∨ divertedTo c s rel = .refuse .causeOfOtherRow := by
  unfold divertedTo
  split
  · rename_i h
    split
    · rename_i h'
      exact .inl (by rw [h, h'])
    · exact .inr rfl
  · exact .inr rfl

/-- Every class row is one arm in the frame of `runArm`, and the arm is R91's arm of the cause or a refusal. -/
theorem exec_eq_runArm (i : Instr) (s : State) (hi : i.wf = true) : ∃ arm, exec i s = runArm arm s ∧
    ∀ rel, arm rel = causeArm s.params s.inp rel ∨ arm rel = .refuse .causeOfOtherRow := by
  cases i <;> first
    | exact absurd hi (by decide)
    | (refine ⟨_, rfl, fun rel => ?_⟩
       try dsimp only
       split
       all_goals first
        | exact divertedTo_eq _ _ _
        | (left; simp_all [causeArm]))

/-- A reserved row is refused with its code. -/
theorem exec_of_not_wf (i : Instr) (s : State) (hi : i.wf = false) : exec i s = .refused (.reservedCode i.code) := by
  cases i <;> first
    | exact absurd hi (by decide)
    | rfl

/-- A row whose arm yields an admitted class takes that exception. -/
theorem exec_of_arm_cls {i : Instr} {s : State} {arm : Relation → Arm} {rel : Relation} {c : EcClass}
    (hx : exec i s = runArm arm s) (hr : checkedRelation s.inp = .ok rel) (hs : causeStop s.inp = none)
    (ha : arm rel = .cls c) (hf : fromOk c s.inp.execState = true) (ht : targetOk s.params c s.inp.target = true) :
    exec i s = .next (takeException c s) := by
  rw [hx, runArm_of_ok hr hs, ha]
  simp [reportClass, admission_eq_none.2 ⟨hf, ht⟩]

/-- A run of more than one step, by the outcome of its first. -/
theorem run_of_next {M : Host.Core} {k : Nat} {s t : M.State} (h : M.step s = .next t) :
    M.run (k + 1) s = M.run k t := by
  have hk : M.run (k + 1) s = match M.step s with
    | .next s' => M.run k s'
    | .fault r => .fault r
    | .refused r => .refused r := rfl
  rw [hk, h]

theorem run_of_fault {M : Host.Core} {k : Nat} {s : M.State} {r : M.Fault} (h : M.step s = .fault r) :
    M.run (k + 1) s = .fault r := by
  have hk : M.run (k + 1) s = match M.step s with
    | .next s' => M.run k s'
    | .fault r => .fault r
    | .refused r => .refused r := rfl
  rw [hk, h]

theorem run_of_refused {M : Host.Core} {k : Nat} {s : M.State} {r : M.Refusal} (h : M.step s = .refused r) :
    M.run (k + 1) s = .refused r := by
  have hk : M.run (k + 1) s = match M.step s with
    | .next s' => M.run k s'
    | .fault r => .fault r
    | .refused r => .refused r := rfl
  rw [hk, h]

end Sys2Proof.Machine
end

