-- ==== Sys2Proof/Tests/Slice0.lean ====
section
/-! SUPPORT. The model's own tests: the checks of WellFormed refuse an ill-formed term each, every row's decoding from its
code written out, the vectors of 95_test_vectors.md through one step, and for every obligation with hypotheses a
theorem that something meets them (`witness_<name of the obligation>`). -/

namespace Sys2Proof.Tests

open Sys2Proof Sys2Proof.Machine

/-! ## Helpers -/

/-- A report of a cause, in which every condition the cause needs holds. -/
def vec (c : Cause) (st : ExecState) (f : El) (t : Target) : Inputs :=
  { reportOf c with execState := st, fromEl := f, target := t }

/-- The reset state with a report taken in. -/
def sample (c : Cause) (st : ExecState) (f : El) (t : Target) : State :=
  { State.reset with inp := vec c st f t }

/-- The reset state with events presented. -/
def asking (l : List Presentation) : State :=
  { State.reset with pending := l }

/-- A presented cause. -/
def shown (inp : Inputs) : Presentation :=
  { inputs := inp, event := .causes [] }

/-- An event with a report that does not matter. -/
def event (e : Event) : Presentation :=
  { inputs := Inputs.quiet, event := e }

abbrev dflt : Params := Params.vectorDefaults

/-- HVC and SMC disabled. -/
def callsOff : TrapConfig :=
  { trapsCause := true, hvcDisabled := true, smcDisabled := true }

/-- What a test looks at after one step: the code recorded for the target, no exception, or why it stopped. -/
inductive Seen where
  | code (ec : EcCode)
  | nothing
  | stops (r : Refusal)
  | faults (f : Fault)
deriving DecidableEq, Repr

/-- One step on a presented cause. -/
def seen (p : Params) (inp : Inputs) : Seen :=
  match step { State.reset with params := p, pending := [shown inp] } with
  | .refused r => .stops r
  | .fault f => .faults f
  | .next t =>
    match t.holder inp.target with
    | some y => .code y.ec
    | none => .nothing

/-! ## WellFormed refuses -/

theorem test_wf_reserved_row : Instr.reserved02.wf = false ∧ Instr.reserved3F.wf = false ∧ Instr.ecUnknown.wf = true := by
  decide

theorem test_wf_coproc_pairs : (Cause.coprocAccess .cp15 .ldcStc).wf = false ∧ (Cause.coprocAccess .cp10 .mcrMrc).wf = false ∧
    (Cause.coprocAccess .cp14 (.idRead .fpsid)).wf = false ∧ (Cause.coprocAccess .cp10 (.idRead .fpsid)).wf = true := by
  decide

theorem test_wf_code_byte : codeByteWf 0b01000000#8 = false ∧ codeByteWf 0b10000001#8 = false ∧ codeByteWf 0b00111111#8 = true := by
  decide

theorem test_wf_params : Params.wf { dflt with ecLsb := 27 } = false ∧ Params.wf { dflt with disabledCallClass := some .hvc32 } = false ∧
    Params.wf { dflt with disabledCallClass := some .smc64 } = false ∧ Params.wf { dflt with disabledCallClass := none } = true ∧
    Params.wf { dflt with disabledCallClass := some .fpExc32, hasA32FpTrap := false } = false ∧
    Params.wf { dflt with disabledCallClass := some .fpExc32 } = true ∧ Params.wf dflt = true := by
  decide

/-! ## The spec's vectors -/

/-- 95_test_vectors.md 2.4. -/
theorem test_vectors_traps : ∀ v ∈ ([
    (dflt, vec .unknownReason .aarch64 .el0 .el1, .code 0b000000#6),
    (dflt, vec .unknownReason .aarch32 .el0 .el1, .code 0b000000#6),
    (dflt, vec .unknownReason .aarch64 .el3 .el3, .code 0b000000#6),
    (dflt, vec .unknownReason .aarch64 .el2 .el1, .stops .fromAboveTarget),
    (dflt, vec (.wfx .wfi true) .aarch64 .el0 .el1, .code 0b000001#6),
    (dflt, vec (.wfx .wfe true) .aarch32 .el0 .el2, .code 0b000001#6),
    (dflt, vec (.wfx .wfe true) .aarch64 .el1 .el3, .code 0b000001#6),
    (dflt, vec (.wfx .wfi false) .aarch32 .el0 .el1, .nothing),
    (dflt, vec (.wfx .wfe false) .aarch32 .el1 .el2, .nothing),
    (dflt, vec (.wfx .wfi true) .aarch32 .el1 .el1, .stops .aarch32AtCurrentLevel),
    (dflt, vec (.coprocAccess .cp15 .mcrMrc) .aarch32 .el0 .el1, .code 0b000011#6),
    (dflt, vec (.coprocAccess .cp15 .mcrMrc) .aarch32 .el1 .el2, .code 0b000011#6),
    (dflt, { vec (.coprocAccess .cp15 .mcrMrc) .aarch32 .el1 .el2 with usesUnknown := true }, .code 0b000000#6),
    (dflt, vec (.coprocAccess .cp15 .mcrMrc) .aarch64 .el0 .el1, .stops .wrongExecState),
    (dflt, vec (.coprocAccess .cp15 .mcrrMrrc) .aarch32 .el0 .el1, .code 0b000100#6),
    (dflt, { vec (.coprocAccess .cp15 .mcrrMrrc) .aarch32 .el0 .el3 with usesUnknown := true }, .code 0b000000#6),
    (dflt, vec (.coprocAccess .cp14 .mcrMrc) .aarch32 .el0 .el2, .code 0b000101#6),
    (dflt, { vec (.coprocAccess .cp14 .mcrMrc) .aarch32 .el0 .el2 with usesUnknown := true }, .code 0b000000#6),
    (dflt, vec (.coprocAccess .cp14 .ldcStc) .aarch32 .el0 .el1, .code 0b000110#6),
    (dflt, { vec (.coprocAccess .cp14 .ldcStc) .aarch32 .el0 .el1 with usesUnknown := true }, .code 0b000110#6),
    (dflt, vec (.coprocAccess .cp14 .mcrrMrrc) .aarch32 .el1 .el3, .code 0b001100#6),
    (dflt, { vec (.coprocAccess .cp14 .mcrrMrrc) .aarch32 .el1 .el3 with usesUnknown := true }, .code 0b001100#6),
    (dflt, vec (.coprocAccess .cp10 (.idRead .mvfr0)) .aarch32 .el1 .el2, .code 0b001000#6),
    (dflt, vec (.coprocAccess .cp10 (.idRead .fpsid)) .aarch32 .el0 .el2, .code 0b001000#6),
    (dflt, { vec (.coprocAccess .cp10 (.idRead .mvfr1)) .aarch32 .el1 .el2 with usesSimdFp := true }, .code 0b000111#6),
    (dflt, vec (.coprocAccess .cp10 (.idRead .mvfr2)) .aarch32 .el0 .el1, .stops .targetNotAdmitted),
    (dflt, { vec (.coprocAccess .cp10 (.idRead .mvfr2)) .aarch32 .el0 .el1 with usesSimdFp := true }, .code 0b000111#6),
    (dflt, vec (.coprocAccess .cp10 (.idRead .mvfr0)) .aarch32 .el1 .el3, .stops .targetNotAdmitted),
    (dflt, vec (.coprocAccess .cp15 .ldcStc) .aarch32 .el0 .el1, .stops .unnamedCoprocAccess),
    (dflt, vec (.coprocAccess .cp10 .mcrMrc) .aarch32 .el0 .el2, .stops .unnamedCoprocAccess),
    (dflt, vec .simdFpAccess .aarch64 .el0 .el1, .code 0b000111#6),
    (dflt, vec .simdFpAccess .aarch32 .el0 .el1, .code 0b000111#6),
    (dflt, vec .simdFpAccess .aarch64 .el2 .el3, .code 0b000111#6),
    (dflt, vec .illegalExecutionState .aarch64 .el0 .el1, .code 0b001110#6),
    (dflt, vec .illegalExecutionState .aarch64 .el2 .el2, .code 0b001110#6),
    (dflt, vec .illegalExecutionState .aarch32 .el0 .el1, .stops .stateNotAdmitted)] : List (Params × Inputs × Seen)),
    seen v.1 v.2.1 = v.2.2 := by
  decide +kernel

/-- 95_test_vectors.md 2.5. -/
theorem test_vectors_calls : ∀ v ∈ ([
    (dflt, vec .svc .aarch32 .el0 .el1, .code 0b010001#6),
    (dflt, vec .svc .aarch32 .el0 .el2, .code 0b010001#6),
    (dflt, vec .svc .aarch32 .el0 .el3, .stops .targetNotAdmitted),
    (dflt, vec .svc .aarch32 .el1 .el1, .stops .aarch32AtCurrentLevel),
    (dflt, vec .svc .aarch64 .el0 .el1, .code 0b010101#6),
    (dflt, vec .svc .aarch64 .el1 .el1, .code 0b010101#6),
    (dflt, vec .svc .aarch64 .el0 .el2, .code 0b010101#6),
    (dflt, vec .svc .aarch64 .el3 .el3, .code 0b010101#6),
    (dflt, vec .hvc .aarch32 .el1 .el2, .code 0b010010#6),
    (dflt, vec .hvc .aarch32 .el0 .el1, .stops .targetNotAdmitted),
    (dflt, vec .hvc .aarch32 .el1 .el3, .stops .targetNotAdmitted),
    (dflt, vec .hvc .aarch64 .el1 .el2, .code 0b010110#6),
    (dflt, vec .hvc .aarch64 .el2 .el2, .code 0b010110#6),
    (dflt, vec .hvc .aarch64 .el1 .el3, .code 0b010110#6),
    (dflt, vec .hvc .aarch64 .el1 .el1, .stops .targetNotAdmitted),
    (dflt, { vec .hvc .aarch64 .el1 .el1 with trapConfig := callsOff }, .code 0b000000#6),
    ({ dflt with disabledCallClass := none }, { vec .hvc .aarch64 .el1 .el2 with trapConfig := callsOff }, .nothing),
    (dflt, vec .smc .aarch32 .el1 .el3, .code 0b010011#6),
    (dflt, vec .smc .aarch32 .el1 .el2, .code 0b010011#6),
    (dflt, vec .smc .aarch64 .el1 .el3, .code 0b010111#6),
    (dflt, vec .smc .aarch64 .el1 .el2, .code 0b010111#6),
    (dflt, vec .smc .aarch64 .el1 .el1, .stops .targetNotAdmitted),
    (dflt, { vec .smc .aarch64 .el1 .el1 with trapConfig := callsOff }, .code 0b000000#6),
    (dflt, vec .smc .aarch64 .el3 .el3, .code 0b010111#6),
    (dflt, vec .sysAccess64 .aarch64 .el0 .el1, .code 0b011000#6),
    (dflt, vec .sysAccess64 .aarch64 .el1 .el2, .code 0b011000#6),
    (dflt, vec .sysAccess64 .aarch64 .el1 .el3, .code 0b011000#6),
    (dflt, { vec .sysAccess64 .aarch64 .el1 .el2 with usesUnknown := true }, .code 0b000000#6),
    (dflt, { vec .sysAccess64 .aarch64 .el0 .el1 with usesWfx := true }, .code 0b000001#6),
    (dflt, { vec .sysAccess64 .aarch64 .el0 .el1 with usesSimdFp := true }, .code 0b000111#6),
    (dflt, { vec .sysAccess64 .aarch64 .el0 .el1 with usesWfx := true, usesSimdFp := true }, .stops .exclusionsOverlap),
    (dflt, vec .sysAccess64 .aarch32 .el0 .el1, .stops .wrongExecState)] : List (Params × Inputs × Seen)),
    seen v.1 v.2.1 = v.2.2 := by
  decide +kernel

/-- 95_test_vectors.md 2.6. -/
theorem test_vectors_aborts : ∀ v ∈ ([
    (dflt, vec (.instructionAbort .mmuFault) .aarch64 .el0 .el1, .code 0b100000#6),
    (dflt, vec (.instructionAbort .syncExternalAbort) .aarch32 .el0 .el1, .code 0b100000#6),
    (dflt, vec (.instructionAbort .syncParityError) .aarch64 .el1 .el1, .code 0b100001#6),
    (dflt, vec (.instructionAbort .mmuFault) .aarch64 .el1 .el2, .code 0b100000#6),
    (dflt, vec (.instructionAbort .mmuFault) .aarch64 .el3 .el3, .code 0b100001#6),
    (dflt, vec (.instructionAbort .mmuFault) .aarch32 .el1 .el1, .stops .aarch32AtCurrentLevel),
    (dflt, vec (.instructionAbort .mmuFault) .aarch64 .el2 .el1, .stops .fromAboveTarget),
    (dflt, vec .pcAlignment .aarch64 .el0 .el1, .code 0b100010#6),
    (dflt, vec .pcAlignment .aarch64 .el2 .el2, .code 0b100010#6),
    (dflt, vec .pcAlignment .aarch32 .el0 .el1, .stops .stateNotAdmitted),
    (dflt, vec (.dataAbort .mmuFault) .aarch64 .el0 .el1, .code 0b100100#6),
    (dflt, vec (.dataAbort .alignmentFault) .aarch32 .el0 .el1, .code 0b100100#6),
    (dflt, vec (.dataAbort .alignmentFault) .aarch64 .el1 .el1, .code 0b100101#6),
    (dflt, vec (.dataAbort .syncExternalAbort) .aarch64 .el1 .el3, .code 0b100100#6),
    (dflt, vec (.dataAbort .syncParityError) .aarch64 .el2 .el2, .code 0b100101#6),
    (dflt, vec (.dataAbort .mmuFault) .aarch32 .el1 .el2, .code 0b100100#6),
    (dflt, vec (.dataAbort .mmuFault) .aarch32 .el2 .el2, .stops .aarch32AtCurrentLevel),
    (dflt, vec .spAlignment .aarch64 .el0 .el1, .code 0b100110#6),
    (dflt, vec .spAlignment .aarch64 .el1 .el1, .code 0b100110#6),
    (dflt, vec .spAlignment .aarch32 .el0 .el1, .stops .stateNotAdmitted),
    (dflt, vec .fpException .aarch32 .el0 .el1, .code 0b101000#6),
    (dflt, vec .fpException .aarch32 .el0 .el2, .code 0b101000#6),
    (dflt, vec .fpException .aarch32 .el0 .el3, .stops .targetNotAdmitted),
    ({ dflt with hasA32FpTrap := false }, vec .fpException .aarch32 .el0 .el1, .stops .a32FpTrapAbsent),
    (dflt, vec .fpException .aarch64 .el0 .el1, .code 0b101100#6),
    (dflt, vec .fpException .aarch64 .el1 .el1, .code 0b101100#6),
    (dflt, vec .fpException .aarch64 .el0 .el3, .code 0b101100#6),
    ({ dflt with hasA32FpTrap := false }, vec .fpException .aarch64 .el0 .el1, .code 0b101100#6),
    (dflt, vec .sError .aarch64 .el0 .el1, .code 0b101111#6),
    (dflt, vec .sError .aarch64 .el1 .el3, .code 0b101111#6),
    (dflt, vec .sError .aarch64 .el2 .el2, .code 0b101111#6),
    (dflt, vec .sError .aarch32 .el0 .el1, .stops .stateNotAdmitted)] : List (Params × Inputs × Seen)),
    seen v.1 v.2.1 = v.2.2 := by
  decide +kernel

/-- 95_test_vectors.md 2.7. -/
theorem test_vectors_debug : ∀ v ∈ ([
    (dflt, vec .breakpoint .aarch64 .el0 .el1, .code 0b110000#6),
    (dflt, vec .breakpoint .aarch64 .el1 .el1, .code 0b110001#6),
    (dflt, vec .breakpoint .aarch64 .el1 .el2, .code 0b110000#6),
    (dflt, vec .breakpoint .aarch64 .el2 .el2, .code 0b110001#6),
    (dflt, vec .breakpoint .aarch64 .el0 .el3, .stops .targetNotAdmitted),
    (dflt, vec .breakpoint .aarch32 .el0 .el1, .stops .stateNotAdmitted),
    (dflt, vec .softwareStep .aarch64 .el0 .el1, .code 0b110010#6),
    (dflt, vec .softwareStep .aarch64 .el1 .el1, .code 0b110011#6),
    (dflt, vec .softwareStep .aarch64 .el3 .el3, .stops .targetNotAdmitted),
    (dflt, vec .watchpoint .aarch64 .el0 .el2, .code 0b110100#6),
    (dflt, vec .watchpoint .aarch64 .el2 .el2, .code 0b110101#6),
    (dflt, vec .watchpoint .aarch32 .el0 .el2, .stops .stateNotAdmitted),
    (dflt, vec .bkpt .aarch32 .el0 .el1, .code 0b111000#6),
    (dflt, vec .bkpt .aarch32 .el1 .el2, .code 0b111000#6),
    (dflt, vec .bkpt .aarch32 .el0 .el3, .stops .targetNotAdmitted),
    (dflt, vec .bkpt .aarch64 .el0 .el1, .stops .wrongExecState),
    (dflt, vec .vectorCatch .aarch32 .el1 .el2, .code 0b111010#6),
    (dflt, vec .vectorCatch .aarch32 .el0 .el2, .code 0b111010#6),
    (dflt, vec .vectorCatch .aarch64 .el1 .el2, .code 0b111010#6),
    (dflt, vec .vectorCatch .aarch32 .el0 .el1, .stops .targetNotAdmitted),
    (dflt, vec .vectorCatch .aarch32 .el1 .el3, .stops .targetNotAdmitted),
    (dflt, vec .brk .aarch64 .el0 .el1, .code 0b111100#6),
    (dflt, vec .brk .aarch64 .el1 .el1, .code 0b111100#6),
    (dflt, vec .brk .aarch64 .el3 .el3, .code 0b111100#6),
    (dflt, vec .brk .aarch64 .el1 .el2, .code 0b111100#6),
    (dflt, vec .brk .aarch32 .el0 .el1, .stops .wrongExecState)] : List (Params × Inputs × Seen)),
    seen v.1 v.2.1 = v.2.2 := by
  decide +kernel

/-- 30_encoding.md R32 and R33, the values 0b00xxxx, bit by bit. -/
theorem test_decode_traps : ∀ v ∈ ([
    (0b00000000#8, .ecUnknown), (0b00000001#8, .ecWfx), (0b00000010#8, .reserved02), (0b00000011#8, .ecCp15McrMrc),
    (0b00000100#8, .ecCp15McrrMrrc), (0b00000101#8, .ecCp14McrMrc), (0b00000110#8, .ecCp14LdcStc), (0b00000111#8, .ecSimdFpAccess),
    (0b00001000#8, .ecCp10Id), (0b00001001#8, .reserved09), (0b00001010#8, .reserved0A), (0b00001011#8, .reserved0B),
    (0b00001100#8, .ecCp14McrrMrrc), (0b00001101#8, .reserved0D), (0b00001110#8, .ecIllegalState), (0b00001111#8, .reserved0F)] : List (Byte × Instr)),
    decode [v.1] = .ok v.2 ∧ decodeTableWord 6 v.1.toNat = some v.2 ∧ decodeTableWord 8 v.1.toNat = some v.2 := by
  decide +kernel

/-- 30_encoding.md R32 and R33, the values 0b01xxxx, bit by bit. -/
theorem test_decode_calls : ∀ v ∈ ([
    (0b00010000#8, .reserved10), (0b00010001#8, .ecSvc32), (0b00010010#8, .ecHvc32), (0b00010011#8, .ecSmc32),
    (0b00010100#8, .reserved14), (0b00010101#8, .ecSvc64), (0b00010110#8, .ecHvc64), (0b00010111#8, .ecSmc64),
    (0b00011000#8, .ecSys64), (0b00011001#8, .reserved19), (0b00011010#8, .reserved1A), (0b00011011#8, .reserved1B),
    (0b00011100#8, .reserved1C), (0b00011101#8, .reserved1D), (0b00011110#8, .reserved1E), (0b00011111#8, .reserved1F)] : List (Byte × Instr)),
    decode [v.1] = .ok v.2 ∧ decodeTableWord 6 v.1.toNat = some v.2 ∧ decodeTableWord 8 v.1.toNat = some v.2 := by
  decide +kernel

/-- 30_encoding.md R32 and R33, the values 0b10xxxx, bit by bit. -/
theorem test_decode_aborts : ∀ v ∈ ([
    (0b00100000#8, .ecIabtLower), (0b00100001#8, .ecIabtCurrent), (0b00100010#8, .ecPcAlign), (0b00100011#8, .reserved23),
    (0b00100100#8, .ecDabtLower), (0b00100101#8, .ecDabtCurrent), (0b00100110#8, .ecSpAlign), (0b00100111#8, .reserved27),
    (0b00101000#8, .ecFpExc32), (0b00101001#8, .reserved29), (0b00101010#8, .reserved2A), (0b00101011#8, .reserved2B),
    (0b00101100#8, .ecFpExc64), (0b00101101#8, .reserved2D), (0b00101110#8, .reserved2E), (0b00101111#8, .ecSerror)] : List (Byte × Instr)),
    decode [v.1] = .ok v.2 ∧ decodeTableWord 6 v.1.toNat = some v.2 ∧ decodeTableWord 8 v.1.toNat = some v.2 := by
  decide +kernel

/-- 30_encoding.md R32 and R33, the values 0b11xxxx, bit by bit. -/
theorem test_decode_debug : ∀ v ∈ ([
    (0b00110000#8, .ecBreakpointLower), (0b00110001#8, .ecBreakpointCurrent), (0b00110010#8, .ecSoftstepLower), (0b00110011#8, .ecSoftstepCurrent),
    (0b00110100#8, .ecWatchpointLower), (0b00110101#8, .ecWatchpointCurrent), (0b00110110#8, .reserved36), (0b00110111#8, .reserved37),
    (0b00111000#8, .ecBkpt32), (0b00111001#8, .reserved39), (0b00111010#8, .ecVectorCatch32), (0b00111011#8, .reserved3B),
    (0b00111100#8, .ecBrk64), (0b00111101#8, .reserved3D), (0b00111110#8, .reserved3E), (0b00111111#8, .reserved3F)] : List (Byte × Instr)),
    decode [v.1] = .ok v.2 ∧ decodeTableWord 6 v.1.toNat = some v.2 ∧ decodeTableWord 8 v.1.toNat = some v.2 := by
  decide +kernel

/-- 95_test_vectors.md 2.3, first table: `word_of(encode_ec(c), 0)` with the defaults, class by class. -/
theorem test_word_of : EcClass.all.map (fun c => wordOf 26 (encodeEc c) 0#32) = [
    0x00000000#32, 0x04000000#32, 0x0C000000#32, 0x10000000#32, 0x14000000#32, 0x18000000#32, 0x1C000000#32,
    0x20000000#32, 0x30000000#32, 0x38000000#32, 0x44000000#32, 0x48000000#32, 0x4C000000#32, 0x54000000#32,
    0x58000000#32, 0x5C000000#32, 0x60000000#32, 0x80000000#32, 0x84000000#32, 0x88000000#32, 0x90000000#32,
    0x94000000#32, 0x98000000#32, 0xA0000000#32, 0xB0000000#32, 0xBC000000#32, 0xC0000000#32, 0xC4000000#32,
    0xC8000000#32, 0xCC000000#32, 0xD0000000#32, 0xD4000000#32, 0xE0000000#32, 0xE8000000#32, 0xF0000000#32] := by
  decide

/-- 95_test_vectors.md 2.3, second table. -/
theorem test_ec_of_word : [
    0x00000000#32, 0x01FFFFFF#32, 0x02000000#32, 0x03FFFFFF#32, 0x04000000#32, 0x5600002A#32, 0x96000045#32,
    0x92000045#32, 0xF2000001#32, 0xBE000000#32, 0x0A000000#32, 0xFC000000#32, 0xFFFFFFFF#32, 0xF0000000#32,
    0x80000000#32, 0x7C000000#32].map (ecOfWord 26) = [
    0b000000#6, 0b000000#6, 0b000000#6, 0b000000#6, 0b000001#6, 0b010101#6, 0b100101#6, 0b100100#6, 0b111100#6, 0b101111#6,
    0b000010#6, 0b111111#6, 0b111111#6, 0b111100#6, 0b100000#6, 0b011111#6] := by
  decide

/-- 95_test_vectors.md 2.3: other values of the open parameters. -/
theorem test_word_of_other_places : wordOf 0 0b010101#6 0#32 = 0x00000015#32 ∧ wordOf 26 0b010101#6 0#64 = 0x0000000054000000#64 := by
  decide

/-- The 27 causes of 95_test_vectors.md 2.8. -/
def sweepCauses : List Cause :=
  [.unknownReason, .wfx .wfi true, .wfx .wfi false, .coprocAccess .cp15 .mcrMrc, .coprocAccess .cp15 .mcrrMrrc,
    .coprocAccess .cp14 .mcrMrc, .coprocAccess .cp14 .ldcStc, .coprocAccess .cp14 .mcrrMrrc,
    .coprocAccess .cp10 (.idRead .mvfr0), .simdFpAccess, .illegalExecutionState, .svc, .hvc, .smc, .sysAccess64, .instructionAbort .mmuFault, .pcAlignment,
    .dataAbort .mmuFault, .spAlignment, .fpException, .sError, .breakpoint, .softwareStep, .watchpoint, .bkpt,
    .vectorCatch, .brk]

/-- Every combination of the sweep. -/
def sweep : List Inputs :=
  sweepCauses.flatMap fun c => [ExecState.aarch32, .aarch64].flatMap fun st =>
    [El.el0, .el1, .el2, .el3].flatMap fun f => [Target.el1, .el2, .el3].map fun t => vec c st f t

/-- 95_test_vectors.md 2.8: 648 combinations, 229 classes, 15 `NoException`, 404 refusals. -/
theorem test_sweep :
    sweep.length = 648 ∧ (sweep.filter fun v => classify dflt v matches .cls _).length = 229 ∧
    (sweep.filter fun v => classify dflt v matches .noException).length = 15 ∧
    (sweep.filter fun v => classify dflt v matches .refuse _).length = 404 := by
  decide +kernel

/-! ## Steps -/

/-- 95_test_vectors.md 3.1, step 2: an SVC to EL1 leaves the other levels unwritten. -/
theorem test_svc_writes_el1_only : ∃ t, step (asking [shown (vec .svc .aarch64 .el0 .el1)]) = .next t ∧
    t.syndromeEL1.map (·.ec) = some 0b010101#6 ∧ t.syndromeEL2 = none ∧ t.syndromeEL3 = none :=
  ⟨_, rfl, by decide, rfl, rfl⟩

/-- 95_test_vectors.md 3.1, step 1: an instruction with no cause leaves every syndrome alone. -/
theorem test_no_cause : ∃ t, step (asking [event .noCause]) = .next t ∧ t.syndromeEL1 = none ∧ t.pending = [] :=
  ⟨_, rfl, rfl, rfl⟩

/-- R22, R113: a handler that reads an unwritten syndrome faults. -/
theorem test_unwritten_read : step (asking [event (.handlerRead .el2)]) = .fault (.unwrittenSyndrome .el2) := rfl

/-- 95_test_vectors.md 3.4: words from outside. -/
theorem test_words_from_outside : (∃ t, step (asking [event (.handlerWord .el1 0x5600002A)]) = .next t ∧
      t.handled = some (.el1, .svc64)) ∧
    step (asking [event (.handlerWord .el1 0x0A000000)]) = .refused (.reservedCode 0b000010#6) ∧
    step (asking [event (.handlerWord .el1 0x58000000)]) = .refused .classWithoutHandlerArm :=
  ⟨⟨_, rfl, by decide⟩, rfl, rfl⟩

/-- D18: a target level that is absent, or that does not run in AArch64. -/
theorem test_levels : seen { dflt with hasEL3 := false } (vec .svc .aarch64 .el0 .el3) = .stops (.levelAbsent .el3) ∧
    seen { dflt with el2UsesAArch64 := false } (vec .svc .aarch64 .el0 .el2) = .stops (.targetNotAArch64 .el2) := by
  decide +kernel

/-- R111: without the feature no disabled call is reported with its class; with it, the class is reported where admitted. -/
theorem test_disabled_call_without_the_feature :
    seen { dflt with hasA32FpTrap := false, disabledCallClass := some .fpExc32 }
      { vec .hvc .aarch32 .el0 .el1 with trapConfig := callsOff } = .stops .a32FpTrapAbsent ∧
    seen { dflt with disabledCallClass := some .fpExc32 } { vec .hvc .aarch32 .el0 .el1 with trapConfig := callsOff } =
      .code 0b101000#6 := by
  decide +kernel

/-- An event without a cause goes on whatever the report's predicates say (log 31). -/
theorem test_no_cause_reads_no_predicate :
    step (asking [{ inputs := vec .illegalExecutionState .aarch64 .el0 .el1, event := .noCause }]) =
      .next { asking [] with inp := vec .illegalExecutionState .aarch64 .el0 .el1 } := rfl

/-- Causes that the report denies (R12 to R14, R27, R102, R109, U7). -/
theorem test_causes_that_do_not_exist : ∀ v ∈ ([
    ({ vec .illegalExecutionState .aarch64 .el0 .el1 with pstateIl := 0#1 }, .causeDoesNotExist),
    ({ vec .pcAlignment .aarch64 .el0 .el1 with misalignedPc := false }, .causeDoesNotExist),
    ({ vec .spAlignment .aarch64 .el0 .el1 with spChecked := false }, .causeDoesNotExist),
    ({ vec (.dataAbort .alignmentFault) .aarch64 .el0 .el1 with misalignedData := false }, .causeDoesNotExist),
    ({ vec .sError .aarch64 .el0 .el1 with sErrorPending := false }, .causeDoesNotExist),
    ({ vec (.wfx .wfe true) .aarch64 .el0 .el1 with trapConfig := { callsOff with trapsCause := false } }, .untrappedWait),
    ({ vec .sysAccess64 .aarch64 .el0 .el1 with trapConfig := { callsOff with trapsCause := false } }, .untrappedAccess),
    ({ vec (.coprocAccess .cp14 .ldcStc) .aarch32 .el0 .el1 with ldcStcReg := some .other }, .unarchitectedCp14Use)] :
      List (Inputs × Refusal)), seen dflt v.1 = .stops v.2 := by
  decide +kernel

/-- A code placed where the next step fetches it runs its row: every class goes on, every reserved value is refused. -/
theorem test_with_fetch_word : ∀ n < 64, (match decodeEc (BitVec.ofNat 6 n), step (State.reset.withFetchWord 6 n) with
    | .allocated _, .next t => decide (t.syndromeEL2.map (·.ec) = some (BitVec.ofNat 6 n))
    | .reserved v, .refused r => decide (r = .reservedCode v)
    | _, _ => false) = true := by
  decide +kernel

/-- A row supplied from outside for another row's cause is refused (log 30). -/
theorem test_row_of_another_cause :
    step (asking [{ inputs := vec .svc .aarch64 .el0 .el1, event := .code 0b00111100#8 }]) = .refused .causeOfOtherRow := rfl

/-- Bytes that are no code. -/
theorem test_undecodable : step (asking [{ inputs := Inputs.quiet, event := .code 0b01000000#8 }]) =
    .refused (.undecodable .spareBitsSet) := rfl

/-! ## Witnesses: something meets the hypotheses of each obligation that has any -/

theorem witness_DecodeEcInvertsEncodeEcAndReservesTheRest :
    ∀ v ∈ [0b000010#6, 0b111111#6], ∀ c ∈ EcClass.all, v ≠ encodeEc c := by decide

theorem witness_EcOfWordReadsBackThePlacedCode :
    (26 + 6 ≤ 32 ∧ ∀ k < 6, (0x03FFFFFF#32).getLsbD (26 + k) = false) ∧
    (0 + 6 ≤ 6 ∧ ∀ k < 6, (0#6).getLsbD (0 + k) = false) := by decide

theorem witness_SyndromeWordShowsTheRecordedCode :
    dflt.issWidth ≤ dflt.ecLsb ∧ dflt.ecLsb + 6 ≤ dflt.wordWidth ∧
      ({ ec := 0b111100#6, iss := 0x1FFFFFF } : Syndrome).iss < 2 ^ dflt.issWidth := by decide

theorem witness_OnlyFivePairsOfClassesDependOnTheRelation :
    (vec (.instructionAbort .mmuFault) .aarch64 .el0 .el1).cause = .instructionAbort .mmuFault ∧
    (vec (.dataAbort .mmuFault) .aarch64 .el0 .el1).cause = .dataAbort .mmuFault ∧
    (vec .breakpoint .aarch64 .el0 .el1).cause = .breakpoint ∧
    (vec .softwareStep .aarch64 .el0 .el1).cause = .softwareStep ∧
    (vec .watchpoint .aarch64 .el0 .el1).cause = .watchpoint ∧
    ((∀ k, (vec .svc .aarch64 .el0 .el1).cause ≠ .instructionAbort k) ∧ (∀ k, (vec .svc .aarch64 .el0 .el1).cause ≠ .dataAbort k) ∧
      (vec .svc .aarch64 .el0 .el1).cause ≠ .breakpoint ∧ (vec .svc .aarch64 .el0 .el1).cause ≠ .softwareStep ∧
      (vec .svc .aarch64 .el0 .el1).cause ≠ .watchpoint) := by
  refine ⟨rfl, rfl, rfl, rfl, rfl, ?_, ?_, by decide, by decide, by decide⟩ <;> intro k <;> cases k <;> decide

/-- The two cases of the conclusion: an exception recorded, and nothing done (three ways). -/
theorem witness_ARowRecordsOneAdmittedClassOrNothing :
    (∃ t, exec .ecSvc64 (sample .svc .aarch64 .el0 .el1) = .next t ∧ t ≠ sample .svc .aarch64 .el0 .el1) ∧
    exec .ecWfx (sample (.wfx .wfi false) .aarch32 .el0 .el1) = .next (sample (.wfx .wfi false) .aarch32 .el0 .el1) ∧
    (∀ c ∈ [(Cause.hvc, Instr.ecHvc64), (.smc, .ecSmc64)], ∃ s t, exec c.2 s = .next t ∧ t = s ∧
      s.inp.cause = c.1 ∧ s.params.disabledCallClass = none) := by
  refine ⟨⟨_, rfl, fun h => ?_⟩, rfl, ?_⟩
  · have := congrArg State.issDraws h
    exact absurd this (by decide)
  · intro c hc
    refine ⟨{ sample c.1 .aarch64 .el1 .el2 with params := { dflt with disabledCallClass := none }, inp := { vec c.1 .aarch64 .el1 .el2 with trapConfig := callsOff } }, _, ?_, rfl, rfl, rfl⟩
    simp only [List.mem_cons, List.not_mem_nil, or_false] at hc
    rcases hc with rfl | rfl <;> rfl

theorem witness_ReservedRowsAreRefused :
    ∀ row ∈ [(Instr.reserved02, 0b000010#6), (.reserved3F, 0b111111#6)], encode row.1 = [row.2.setWidth 8] := by decide

/-- From AArch32 below the target, from AArch64 below it and at it. -/
theorem witness_UnknownReasonRecordsEc000000 : ∀ s ∈ [sample .unknownReason .aarch32 .el0 .el1,
    sample .unknownReason .aarch64 .el0 .el3, sample .unknownReason .aarch64 .el3 .el3],
    s.inp.cause = .unknownReason ∧ canTake s s.inp.target = true ∧ fromEither s := by decide

theorem witness_TrappedWfxRecordsEc000001 : ∀ s ∈ [sample (.wfx .wfi true) .aarch32 .el0 .el2,
    sample (.wfx .wfi true) .aarch64 .el0 .el1, sample (.wfx .wfi true) .aarch64 .el1 .el1],
    s.inp.cause = .wfx .wfi true ∧ s.inp.trapConfig.trapsCause = true ∧ canTake s s.inp.target = true ∧ fromEither s := by
  decide

theorem witness_WfxThatFailsItsConditionCheckCausesNoException : ∀ s ∈ [sample (.wfx .wfe false) .aarch32 .el1 .el2,
    sample (.wfx .wfe false) .aarch64 .el1 .el1], s.inp.cause = .wfx .wfe false ∧ fromEither s := by decide

/-- The three clauses, diverted and not. -/
theorem witness_DivertibleCoprocessorTrapsRecordTheirOwnCodeOr000000 :
    ∀ c ∈ [Cause.coprocAccess .cp15 .mcrMrc, .coprocAccess .cp15 .mcrrMrrc, .coprocAccess .cp14 .mcrMrc], ∀ b : Bool,
    ∃ s : State, s.inp.cause = c ∧ s.inp.usesUnknown = b ∧ fromAArch32 s ∧ canTake s s.inp.target = true ∧
      s.inp.trapConfig.trapsCause = true := by
  intro c _ b
  exact ⟨{ State.reset with inp := { vec c .aarch32 .el0 .el1 with usesUnknown := b } }, rfl, rfl, ⟨rfl, (by decide : 0 < 1)⟩, rfl, rfl⟩

theorem witness_UndivertedCp14TrapsRecordTheirOwnCode : ∀ c ∈ [Cause.coprocAccess .cp14 .ldcStc, .coprocAccess .cp14 .mcrrMrrc],
    (sample c .aarch32 .el0 .el3).inp.cause = c ∧ fromAArch32 (sample c .aarch32 .el0 .el3) ∧
    canTake (sample c .aarch32 .el0 .el3) .el3 = true ∧
    (sample c .aarch32 .el0 .el3).inp.trapConfig.trapsCause = true ∧
    (sample c .aarch32 .el0 .el3).inp.ldcStcReg ≠ some .other := by decide

theorem witness_SimdFpAccessRecordsEc000111 : ∀ s ∈ [sample .simdFpAccess .aarch32 .el0 .el1,
    sample .simdFpAccess .aarch64 .el2 .el3, sample .simdFpAccess .aarch64 .el1 .el1],
    s.inp.cause = .simdFpAccess ∧ s.inp.trapConfig.trapsCause = true ∧ canTake s s.inp.target = true ∧ fromEither s := by
  decide

/-- The three clauses: diverted; to EL2; to another level. -/
theorem witness_Cp10IdReadRecordsEc001000AtEl2Or000111 :
    (∀ b : Bool, ∀ t : Target, ∃ s : State, s.inp.cause = .coprocAccess .cp10 (.idRead .fpsid) ∧ fromAArch32 s ∧
      canTake s s.inp.target = true ∧ s.inp.trapConfig.trapsCause = true ∧ s.inp.usesSimdFp = b ∧ s.inp.target = t) := by
  intro b t
  refine ⟨{ State.reset with inp := { vec (.coprocAccess .cp10 (.idRead .fpsid)) .aarch32 .el0 t with usesSimdFp := b } }, ?_⟩
  cases b <;> cases t <;> decide

theorem witness_IllegalExecutionStateRecordsEc001110 : ∀ s ∈ [sample .illegalExecutionState .aarch64 .el0 .el1,
    sample .illegalExecutionState .aarch64 .el2 .el2],
    s.inp.cause = .illegalExecutionState ∧ s.inp.pstateIl = 1#1 ∧ canTake s s.inp.target = true ∧ fromAArch64 s := by decide

theorem witness_SvcRecordsEc010001Or010101 :
    (∀ s ∈ [sample .svc .aarch32 .el0 .el1, sample .svc .aarch32 .el1 .el2],
      s.inp.cause = .svc ∧ canTake s s.inp.target = true ∧ fromAArch32 s ∧ s.inp.target ≠ .el3) ∧
    (∀ s ∈ [sample .svc .aarch32 .el2 .el3],
      s.inp.cause = .svc ∧ canTake s s.inp.target = true ∧ fromAArch32 s ∧ s.inp.target = .el3) ∧
    (∀ s ∈ [sample .svc .aarch64 .el0 .el1, sample .svc .aarch64 .el3 .el3],
      s.inp.cause = .svc ∧ canTake s s.inp.target = true ∧ fromAArch64 s) := by decide

theorem witness_EnabledHvcRecordsEc010010Or010110 :
    (∀ s ∈ [sample .hvc .aarch32 .el1 .el2], s.inp.cause = .hvc ∧ s.inp.trapConfig.hvcDisabled = false ∧
      canTake s s.inp.target = true ∧ fromAArch32 s ∧ s.inp.target = .el2) ∧
    (∀ s ∈ [sample .hvc .aarch64 .el2 .el2, sample .hvc .aarch64 .el1 .el3], s.inp.cause = .hvc ∧
      s.inp.trapConfig.hvcDisabled = false ∧ canTake s s.inp.target = true ∧ fromAArch64 s ∧ s.inp.target ≠ .el1) ∧
    (∀ s ∈ [sample .hvc .aarch64 .el1 .el1], s.inp.cause = .hvc ∧ s.inp.trapConfig.hvcDisabled = false ∧
      canTake s s.inp.target = true ∧ fromAArch64 s ∧ s.inp.target = .el1) := by decide

theorem witness_EnabledSmcRecordsEc010011Or010111 :
    (∀ s ∈ [sample .smc .aarch32 .el1 .el2, sample .smc .aarch32 .el1 .el3], s.inp.cause = .smc ∧
      s.inp.trapConfig.smcDisabled = false ∧ canTake s s.inp.target = true ∧ s.inp.target ≠ .el1 ∧ fromAArch32 s) ∧
    (∀ s ∈ [sample .smc .aarch64 .el1 .el2, sample .smc .aarch64 .el3 .el3], s.inp.cause = .smc ∧
      s.inp.trapConfig.smcDisabled = false ∧ canTake s s.inp.target = true ∧ s.inp.target ≠ .el1 ∧ fromAArch64 s) := by
  decide

/-- Each of the four rows, with no class and with a class to report. -/
theorem witness_DisabledCallsGiveTheDisabledCallClass : ∀ v ∈ [(Cause.hvc, ExecState.aarch32), (.hvc, .aarch64), (.smc, .aarch32), (.smc, .aarch64)],
    ∀ d ∈ [none, some EcClass.unknown],
    let s : State := { State.reset with
      params := { dflt with disabledCallClass := d }, inp := { vec v.1 v.2 .el0 .el1 with trapConfig := callsOff } }
    s.inp.cause = v.1 ∧ s.inp.trapConfig.hvcDisabled = true ∧ s.inp.trapConfig.smcDisabled = true ∧
      (match v.2 with | .aarch32 => fromAArch32 s | .aarch64 => fromAArch64 s) ∧ s.params.disabledCallClass = d ∧
      fromOk .unknown s.inp.execState = true ∧ targetOk s.params .unknown s.inp.target = true := by
  intro v hv d hd
  simp only [List.mem_cons, List.not_mem_nil, or_false] at hv hd
  rcases hv with rfl | rfl | rfl | rfl <;> rcases hd with rfl | rfl <;> decide

theorem witness_DisabledCallsGiveTheDisabledCallClass_absent_feature : ∀ v ∈ [(Cause.hvc, ExecState.aarch32), (.hvc, .aarch64), (.smc, .aarch32), (.smc, .aarch64)],
    let s : State := { State.reset with
      params := { dflt with disabledCallClass := some .fpExc32, hasA32FpTrap := false },
      inp := { vec v.1 v.2 .el0 .el1 with trapConfig := callsOff } }
    s.inp.cause = v.1 ∧ s.inp.trapConfig.hvcDisabled = true ∧ s.inp.trapConfig.smcDisabled = true ∧
      (match v.2 with | .aarch32 => fromAArch32 s | .aarch64 => fromAArch64 s) ∧
      s.params.disabledCallClass = some .fpExc32 ∧ s.params.hasA32FpTrap = false := by
  intro v hv
  simp only [List.mem_cons, List.not_mem_nil, or_false] at hv
  rcases hv with rfl | rfl | rfl | rfl <;> decide

theorem witness_DisabledCallsNeverRecordACallClass : ∀ v ∈ [(Cause.hvc, Instr.ecHvc64), (.smc, .ecSmc64)], ∃ s t,
    s.params.wf = true ∧ s.inp.cause = v.1 ∧ s.inp.trapConfig.hvcDisabled = true ∧ s.inp.trapConfig.smcDisabled = true ∧
      exec v.2 s = .next t := by
  intro v hv
  simp only [List.mem_cons, List.not_mem_nil, or_false] at hv
  rcases hv with rfl | rfl
  · exact ⟨{ State.reset with inp := { vec .hvc .aarch64 .el1 .el1 with trapConfig := callsOff } }, _, by decide, rfl, rfl, rfl, rfl⟩
  · exact ⟨{ State.reset with inp := { vec .smc .aarch64 .el1 .el1 with trapConfig := callsOff } }, _, by decide, rfl, rfl, rfl, rfl⟩

/-- Every combination of the three predicates. -/
theorem witness_Sys64TrapRecordsOneOfFourCodes : ∀ a b c : Bool, ∃ s : State, s.inp.cause = .sysAccess64 ∧ fromAArch64 s ∧
    canTake s s.inp.target = true ∧ s.inp.trapConfig.trapsCause = true ∧ s.inp.usesUnknown = a ∧ s.inp.usesWfx = b ∧
    s.inp.usesSimdFp = c := by
  intro a b c
  exact ⟨{ State.reset with inp := { vec .sysAccess64 .aarch64 .el1 .el1 with usesUnknown := a, usesWfx := b, usesSimdFp := c } }, rfl, ⟨rfl, (by decide : 1 ≤ 1)⟩, rfl, rfl, rfl, rfl, rfl⟩

theorem witness_InstructionAbortCodeDependsOnTheRelationOnly :
    (∀ s ∈ [sample (.instructionAbort .syncParityError) .aarch32 .el2 .el3, sample (.instructionAbort .syncParityError) .aarch64 .el0 .el1],
      s.inp.cause = .instructionAbort .syncParityError ∧ canTake s s.inp.target = true ∧
      elRank s.inp.fromEl < targetRank s.inp.target) ∧
    (∀ s ∈ [sample (.instructionAbort .mmuFault) .aarch64 .el1 .el1, sample (.instructionAbort .mmuFault) .aarch64 .el3 .el3],
      s.inp.cause = .instructionAbort .mmuFault ∧ canTake s s.inp.target = true ∧
      elRank s.inp.fromEl = targetRank s.inp.target ∧ s.inp.execState = .aarch64) := by decide

theorem witness_DataAbortCodeDoesNotDependOnTheKind :
    (∀ s ∈ [sample (.dataAbort .alignmentFault) .aarch32 .el2 .el3, sample (.dataAbort .alignmentFault) .aarch64 .el0 .el1],
      s.inp.cause = .dataAbort .alignmentFault ∧ canTake s s.inp.target = true ∧ s.inp.misalignedData = true ∧
      elRank s.inp.fromEl < targetRank s.inp.target) ∧
    (∀ s ∈ [sample (.dataAbort .syncExternalAbort) .aarch64 .el1 .el1, sample (.dataAbort .syncExternalAbort) .aarch64 .el3 .el3],
      s.inp.cause = .dataAbort .syncExternalAbort ∧ canTake s s.inp.target = true ∧
      elRank s.inp.fromEl = targetRank s.inp.target ∧ s.inp.execState = .aarch64) := by decide

theorem witness_PcAndSpMisalignmentRecordTheirOwnCodes :
    (∀ s ∈ [sample .pcAlignment .aarch64 .el0 .el1, sample .pcAlignment .aarch64 .el3 .el3], fromAArch64 s ∧
      canTake s s.inp.target = true ∧ s.inp.cause = .pcAlignment ∧ s.inp.misalignedPc = true) ∧
    (∀ s ∈ [sample .spAlignment .aarch64 .el0 .el1, sample .spAlignment .aarch64 .el3 .el3], fromAArch64 s ∧
      canTake s s.inp.target = true ∧ s.inp.cause = .spAlignment ∧ s.inp.misalignedSp = true ∧ s.inp.spChecked = true) := by
  decide

theorem witness_FpExceptionRecordsEc101000Or101100 :
    (∀ s ∈ [sample .fpException .aarch32 .el0 .el1, sample .fpException .aarch32 .el1 .el2], s.inp.cause = .fpException ∧
      canTake s s.inp.target = true ∧ fromAArch32 s ∧ s.inp.target ≠ .el3 ∧ s.params.hasA32FpTrap = true) ∧
    (∀ s ∈ [sample .fpException .aarch64 .el0 .el3, sample .fpException .aarch64 .el1 .el1], s.inp.cause = .fpException ∧
      canTake s s.inp.target = true ∧ fromAArch64 s) := by decide

/-- The feature absent: a row that goes on, by an exception and by doing nothing, and the AArch32 cause itself. -/
theorem witness_WithoutTheA32FpTrapTheCodeStaysAllocatedAndIsNotRecorded :
    (∃ s t, s.params.hasA32FpTrap = false ∧ exec .ecFpExc64 s = .next t ∧ t ≠ s) ∧
    (∃ s t, s.params.hasA32FpTrap = false ∧ exec .ecWfx s = .next t ∧ t = s) ∧
    ∀ s ∈ [{ sample .fpException .aarch32 .el0 .el1 with params := { dflt with hasA32FpTrap := false } }],
      s.inp.cause = .fpException ∧ fromAArch32 s ∧ s.params.hasA32FpTrap = false := by
  refine ⟨⟨{ sample .fpException .aarch64 .el0 .el1 with params := { dflt with hasA32FpTrap := false } }, _, rfl, rfl, fun h => ?_⟩,
    ⟨{ sample (.wfx .wfi false) .aarch64 .el0 .el1 with params := { dflt with hasA32FpTrap := false } }, _, rfl, rfl, rfl⟩, by decide⟩
  exact absurd (congrArg State.issDraws h) (by decide)

theorem witness_PendingSErrorRecordsEc101111 : ∀ s ∈ [sample .sError .aarch64 .el0 .el1, sample .sError .aarch64 .el2 .el2],
    s.inp.cause = .sError ∧ s.inp.sErrorPending = true ∧ canTake s s.inp.target = true ∧ fromAArch64 s := by decide

theorem witness_DebugEventsRecordTheCodeOfTheirRelation : ∀ c ∈ [Cause.breakpoint, .softwareStep, .watchpoint],
    (∀ s ∈ [sample c .aarch64 .el0 .el1, sample c .aarch64 .el1 .el2], s.inp.cause = c ∧ s.inp.execState = .aarch64 ∧
      s.inp.target ≠ .el3 ∧ canTake s s.inp.target = true ∧ elRank s.inp.fromEl < targetRank s.inp.target) ∧
    (∀ s ∈ [sample c .aarch64 .el1 .el1, sample c .aarch64 .el2 .el2], s.inp.cause = c ∧ s.inp.execState = .aarch64 ∧
      s.inp.target ≠ .el3 ∧ canTake s s.inp.target = true ∧ elRank s.inp.fromEl = targetRank s.inp.target) := by decide

theorem witness_BreakpointInstructionsRecordEc111000Or111100 :
    (∀ s ∈ [sample .bkpt .aarch32 .el0 .el1, sample .bkpt .aarch32 .el1 .el2], canTake s s.inp.target = true ∧
      s.inp.cause = .bkpt ∧ fromAArch32 s ∧ s.inp.target ≠ .el3) ∧
    (∀ s ∈ [sample .brk .aarch64 .el0 .el1, sample .brk .aarch64 .el3 .el3], canTake s s.inp.target = true ∧
      s.inp.cause = .brk ∧ fromAArch64 s) ∧
    (∀ s ∈ [sample .bkpt .aarch64 .el0 .el1], canTake s s.inp.target = true ∧ s.inp.cause = .bkpt ∧ fromAArch64 s) ∧
    (∀ s ∈ [sample .brk .aarch32 .el0 .el1], canTake s s.inp.target = true ∧ s.inp.cause = .brk ∧ fromAArch32 s) := by
  decide

theorem witness_VectorCatchRecordsEc111010AtEl2 :
    (∀ s ∈ [sample .vectorCatch .aarch32 .el1 .el2, sample .vectorCatch .aarch64 .el2 .el2], s.inp.cause = .vectorCatch ∧
      canTake s s.inp.target = true ∧ fromEither s ∧ s.inp.target = .el2) ∧
    (∀ s ∈ [sample .vectorCatch .aarch32 .el0 .el1, sample .vectorCatch .aarch64 .el3 .el3], s.inp.cause = .vectorCatch ∧
      canTake s s.inp.target = true ∧ fromEither s ∧ s.inp.target ≠ .el2) := by decide

theorem witness_BreakpointAndWatchpointEventsAreNeverAborts :
    (∃ t, exec .ecBreakpointLower (sample .breakpoint .aarch64 .el0 .el1) = .next t) ∧
    (∃ t, exec .ecBreakpointCurrent (sample .breakpoint .aarch64 .el1 .el1) = .next t) ∧
    (∃ t, exec .ecWatchpointLower (sample .watchpoint .aarch64 .el0 .el1) = .next t) ∧
    ∃ t, exec .ecWatchpointCurrent (sample .watchpoint .aarch64 .el1 .el1) = .next t :=
  ⟨⟨_, rfl⟩, ⟨_, rfl⟩, ⟨_, rfl⟩, ⟨_, rfl⟩⟩

/-- Each kind of debug cause goes on, and the two ways a debug code is recorded. -/
theorem witness_DebugCausesAreRecordedOnlyWhereTheyAreMarked :
    (∃ t, exec .ecBreakpointLower (sample .breakpoint .aarch64 .el0 .el1) = .next t) ∧
    (∃ t, exec .ecSoftstepLower (sample .softwareStep .aarch64 .el0 .el1) = .next t) ∧
    (∃ t, exec .ecWatchpointLower (sample .watchpoint .aarch64 .el0 .el2) = .next t) ∧
    (∃ t, exec .ecVectorCatch32 (sample .vectorCatch .aarch32 .el1 .el2) = .next t) ∧
    (∃ t, exec .ecBkpt32 (sample .bkpt .aarch32 .el0 .el1) = .next t) ∧
    (∃ t, exec .ecBrk64 (sample .brk .aarch64 .el3 .el3) = .next t ∧ Recorded (encodeEc .brk64) (issFormat .brk64) (sample .brk .aarch64 .el3 .el3) t ∧
      48 ≤ (encodeEc .brk64).toNat) ∧
    ∃ s t, exec .ecHvc64 s = .next t ∧ s.inp.cause = .hvc ∧ s.inp.trapConfig.hvcDisabled = true ∧ Recorded (encodeEc .brk64) (issFormat .brk64) s t := by
  refine ⟨⟨_, rfl⟩, ⟨_, rfl⟩, ⟨_, rfl⟩, ⟨_, rfl⟩, ⟨_, rfl⟩, ⟨_, rfl, ⟨rfl, ?_, rfl, rfl, rfl, rfl, rfl⟩, by decide⟩,
    { State.reset with
      params := { dflt with disabledCallClass := some .brk64 }, inp := { vec .hvc .aarch64 .el1 .el1 with trapConfig := callsOff } },
    _, rfl, rfl, rfl, rfl, ?_, rfl, rfl, rfl, rfl, rfl⟩ <;> intro u hu <;> cases u <;> first | rfl | exact absurd rfl hu

theorem witness_MisalignedPcAndSpAreNeverAborts :
    (∃ t, exec .ecPcAlign (sample .pcAlignment .aarch64 .el0 .el1) = .next t) ∧
    ∃ t, exec .ecSpAlign (sample .spAlignment .aarch64 .el1 .el1) = .next t :=
  ⟨⟨_, rfl⟩, ⟨_, rfl⟩⟩

theorem witness_RefusedRelationsRefuseEveryClassRow : Instr.ecSvc64.wf = true ∧
    targetRank (sample .svc .aarch64 .el2 .el1).inp.target < elRank (sample .svc .aarch64 .el2 .el1).inp.fromEl ∧
    elRank (sample .svc .aarch32 .el1 .el1).inp.fromEl = targetRank (sample .svc .aarch32 .el1 .el1).inp.target ∧
    (sample .svc .aarch32 .el1 .el1).inp.execState = .aarch32 := by decide

/-- One report for each clause. -/
theorem witness_CausesThatDoNotExistAreRefused : Instr.ecSvc64.wf = true ∧
    (∃ s : State, fromEither s ∧ s.inp.cause = .illegalExecutionState ∧ s.inp.pstateIl ≠ 1#1) ∧
    (∃ s : State, fromEither s ∧ s.inp.cause = .pcAlignment ∧ s.inp.misalignedPc = false) ∧
    (∃ s : State, fromEither s ∧ s.inp.cause = .spAlignment ∧ (s.inp.misalignedSp && s.inp.spChecked) = false) ∧
    (∃ s : State, fromEither s ∧ s.inp.cause = .dataAbort .alignmentFault ∧ s.inp.misalignedData = false) ∧
    (∃ s : State, fromEither s ∧ s.inp.cause = .sError ∧ s.inp.sErrorPending = false) ∧
    (∃ s : State, fromEither s ∧ s.inp.cause = .wfx .wfi true ∧ s.inp.trapConfig.trapsCause = false) ∧
    (∀ c ∈ [Cause.simdFpAccess, .sysAccess64, .coprocAccess .cp10 .mcrMrc], ∃ s : State, fromEither s ∧ s.inp.cause = c ∧
      s.inp.trapConfig.trapsCause = false) ∧
    ∃ s : State, fromEither s ∧ s.inp.cause = .coprocAccess .cp14 .ldcStc ∧ s.inp.trapConfig.trapsCause = true ∧
      s.inp.ldcStcReg = some .other := by
  refine ⟨rfl,
    ⟨{ State.reset with inp := { Inputs.quiet with cause := .illegalExecutionState } }, by decide⟩,
    ⟨{ State.reset with inp := { Inputs.quiet with cause := .pcAlignment } }, by decide⟩,
    ⟨{ State.reset with inp := { Inputs.quiet with cause := .spAlignment } }, by decide⟩,
    ⟨{ State.reset with inp := { Inputs.quiet with cause := .dataAbort .alignmentFault } }, by decide⟩,
    ⟨{ State.reset with inp := { Inputs.quiet with cause := .sError } }, by decide⟩,
    ⟨{ State.reset with inp := { Inputs.quiet with cause := .wfx .wfi true } }, by decide⟩, ?_,
    ⟨{ State.reset with inp := { vec (.coprocAccess .cp14 .ldcStc) .aarch32 .el0 .el1 with ldcStcReg := some .other } }, by decide⟩⟩
  intro c _
  exact ⟨{ State.reset with inp := { Inputs.quiet with cause := c } }, .inr ⟨rfl, (by decide : 0 ≤ 1)⟩, rfl, rfl⟩

theorem witness_StepRunsTheDecodedRow :
    ((asking [event (.code 0b00010101#8)]).pending = event (.code 0b00010101#8) :: [] ∧
      decode [0b00010101#8] = .ok .ecSvc64) ∧
    (asking [shown (vec .svc .aarch64 .el0 .el1)]).pending = shown (vec .svc .aarch64 .el0 .el1) :: [] ∧
    checkedRelation (vec .svc .aarch64 .el0 .el1) = .ok .lower ∧
    selectRow (vec .svc .aarch64 .el0 .el1) .lower = .ok .ecSvc64 :=
  ⟨⟨rfl, rfl⟩, rfl, rfl, rfl⟩

/-- Classified as a class, as no exception and refused. -/
theorem witness_StepOnAPresentedCauseIsClassifyThenReport : ∀ v ∈ [vec .svc .aarch64 .el0 .el1, vec (.wfx .wfi false) .aarch64 .el0 .el1,
    vec .svc .aarch64 .el2 .el1], (asking [shown v]).pending = { inputs := v, event := .causes [] } :: [] ∧ causeStop v = none := by
  decide

/-- A legal state and a step that goes on: a report, a handler's dispatch and an event that does nothing. -/
theorem witness_StepKeepsEverySyndromeLegal : ∀ p ∈ [shown (vec .svc .aarch64 .el0 .el1), event (.handlerWord .el1 0x5600002A),
    event .noCause], (asking [p]).legal = true ∧ ∃ t, step (asking [p]) = .next t := by
  intro p hp
  simp only [List.mem_cons, List.not_mem_nil, or_false] at hp
  rcases hp with rfl | rfl | rfl <;> exact ⟨by decide, _, rfl⟩

theorem witness_RunsKeepEverySyndromeLegal : (asking [shown (vec .svc .aarch64 .el0 .el1)]).legal = true ∧
    ∃ t, Sys2Proof.core.run 1 (asking [shown (vec .svc .aarch64 .el0 .el1)]) = .next t :=
  ⟨by decide, _, rfl⟩

theorem witness_OnlyAReportChangesASyndrome : ∃ t, step (asking [shown (vec .svc .aarch64 .el0 .el1)]) = .next t ∧
    t.holder .el1 ≠ (asking [shown (vec .svc .aarch64 .el0 .el1)]).holder .el1 :=
  ⟨_, rfl, nofun⟩

theorem witness_ReturnsAndStepsWithoutACauseWriteNothing : ∀ e ∈ [Event.exceptionReturn, .noCause],
    (asking [event e]).pending = event e :: [] ∧ ((event e).event = .exceptionReturn ∨ (event e).event = .noCause) := by decide

/-- A level with a syndrome and levels without one. -/
theorem witness_HandlerReadReachesTheArmOfTheRecordedClass :
    ∀ s ∈ [{ asking [event (.handlerRead .el3)] with syndromeEL3 := some { ec := 0b111100#6, iss := 0x1FFFFFF } },
      asking [event (.handlerRead .el3)]],
    s.legal = true ∧ s.pending = event (.handlerRead .el3) :: [] ∧ levelPresent s.params .el3 = true := by decide

/-- A word with a class, and one with a reserved code. -/
theorem witness_HandlerOfAnOutsideWordDispatchesOnItsCode : levelPresent State.reset.params .el1 = true ∧
    ((asking [event (.handlerWord .el1 0x5600002A)]).pending = event (.handlerWord .el1 0x5600002A) :: [] ∧
      ecOfWord dflt.ecLsb (BitVec.ofNat dflt.wordWidth 0x5600002A) = encodeEc .svc64 ∧ targetOk dflt .svc64 .el1 = true) ∧
    (asking [event (.handlerWord .el1 0xFFFFFFFF)]).pending = event (.handlerWord .el1 0xFFFFFFFF) :: [] ∧
    ecOfWord dflt.ecLsb (BitVec.ofNat dflt.wordWidth 0xFFFFFFFF) = 0b111111#6 ∧
    decodeEc 0b111111#6 = .reserved 0b111111#6 := by decide

theorem witness_ARunFromALegalStateNeverMeetsAReservedCode :
    (asking [shown (vec .svc .aarch64 .el0 .el1), event (.handlerRead .el1)]).legal = true ∧
    ∀ p ∈ (asking [shown (vec .svc .aarch64 .el0 .el1), event (.handlerRead .el1)]).pending, isInternalEvent p.event = true := by
  decide

/-- Two exceptions to one level, and to two. -/
theorem witness_TwoExceptionsOverwriteAtOneLevelAndKeepApartAtTwo :
    ∀ b ∈ [vec .brk .aarch64 .el1 .el1, vec .brk .aarch64 .el1 .el2],
    (asking [shown (vec .svc .aarch64 .el0 .el1), shown b]).pending =
      { inputs := vec .svc .aarch64 .el0 .el1, event := .causes [] } :: { inputs := b, event := .causes [] } :: [] ∧
    causeStop (vec .svc .aarch64 .el0 .el1) = none ∧ causeStop b = none ∧
    classify dflt (vec .svc .aarch64 .el0 .el1) = .cls .svc64 ∧ classify dflt b = .cls .brk64 := by decide

/-- Two states that differ in a holder, the draws and the rest of the list: a report refused, one that goes on, and a
code that goes on. -/
theorem witness_RecordedCodeIsAFunctionOfTheReport :
    ∀ p ∈ [shown (vec .svc .aarch64 .el2 .el1), shown (vec .svc .aarch64 .el0 .el1),
      { inputs := vec .svc .aarch64 .el0 .el1, event := .code 0b00010101#8 }],
    let s := asking [p]
    let s' := { asking [p, event .noCause] with syndromeEL3 := some { ec := 0b111100#6, iss := 1 }, issDraws := 7 }
    s.params = s'.params ∧ s.pending = p :: [] ∧ s'.pending = p :: [event .noCause] ∧
      ((∃ r, step s = .refused r) ∨ ∃ t, step s = .next t) := by
  intro p hp
  simp only [List.mem_cons, List.not_mem_nil, or_false] at hp
  rcases hp with rfl | rfl | rfl
  · exact ⟨rfl, rfl, rfl, .inl ⟨_, rfl⟩⟩
  · exact ⟨rfl, rfl, rfl, .inr ⟨_, rfl⟩⟩
  · exact ⟨rfl, rfl, rfl, .inr ⟨_, rfl⟩⟩

theorem witness_PriorityPresentsOneOfTheCauses :
    (asking [{ inputs := vec .svc .aarch64 .el0 .el1, event := .causes [vec .sError .aarch64 .el0 .el1] }]).pending =
      { inputs := vec .svc .aarch64 .el0 .el1, event := .causes [vec .sError .aarch64 .el0 .el1] } :: [] := by decide

theorem witness_ClassifyReachesEveryClassAndOnlyAdmittedOnes :
    classify dflt (vec .vectorCatch .aarch64 .el2 .el2) = .cls .vectorCatch32 := by decide

/-- The row's own cause, and a cause diverted to the row. -/
theorem witness_ARowFromOutsideRunsOnlyForItsCause :
    (∃ t, exec EcClass.svc64.row (sample .svc .aarch64 .el0 .el1) = .next t) ∧
    ∃ s t, exec EcClass.unknown.row s = .next t ∧ s.inp.cause = .sysAccess64 :=
  ⟨⟨_, rfl⟩, { State.reset with inp := { vec .sysAccess64 .aarch64 .el0 .el1 with usesUnknown := true } }, _, rfl, rfl⟩

end Sys2Proof.Tests
end

section
/-! SUPPORT. What any row does when it goes on, in terms of R91's arm of the presented cause; and the Breakpoint and
Watchpoint events, which R28 reports with their debug codes. -/

namespace Sys2Proof.Machine

/-- The inversion lemma of a row: a row that goes on follows R91's arm of the cause, whichever row it is, so it either
writes nothing or takes the exception of an admitted class. -/
theorem exec_next {i : Instr} {s t : State} (h : exec i s = .next t) :
    ∃ rel, checkedRelation s.inp = .ok rel ∧ causeStop s.inp = none ∧
      ((causeArm s.params s.inp rel = .noException ∧ t = s) ∨
        ∃ c, causeArm s.params s.inp rel = .cls c ∧ fromOk c s.inp.execState = true ∧
          targetOk s.params c s.inp.target = true ∧ t = takeException c s) := by
  cases hwf : i.wf with
  | false => simp [exec_of_not_wf i s hwf] at h
  | true =>
    obtain ⟨arm, hexec, harm⟩ := exec_eq_runArm i s hwf
    rw [hexec] at h
    obtain ⟨rel, hrel, hstop, ⟨hno, rfl⟩ | ⟨c, hcls, hreport⟩⟩ := runArm_next h
    · have harm_rel : causeArm t.params t.inp rel = .noException := by simpa [hno, eq_comm] using harm rel
      exact ⟨rel, hrel, hstop, .inl ⟨harm_rel, rfl⟩⟩
    · have harm_rel : causeArm s.params s.inp rel = .cls c := by simpa [hcls, eq_comm] using harm rel
      exact ⟨rel, hrel, hstop, .inr ⟨c, harm_rel, reportClass_next hreport⟩⟩

@[simp] theorem takeException_holder_target (c : EcClass) (s : State) :
    (takeException c s).holder s.inp.target = some { ec := encodeEc c, iss := drawIss (issFormat c) s } :=
  raiseException_holder_target ..

/-- Where R91 gives the cause a class for each relation, a row that goes on leaves the code of one of them at the
target. -/
theorem exec_next_records_of_causeArm_cls {i : Instr} {s t : State} {cls : Relation → EcClass}
    (h : exec i s = .next t) (harm : ∀ rel, causeArm s.params s.inp rel = .cls (cls rel)) :
    ∃ rel y, t.holder s.inp.target = some y ∧ y.ec = encodeEc (cls rel) := by
  obtain ⟨rel, _, _, ⟨hno, _⟩ | ⟨c, hcls, _, _, rfl⟩⟩ := exec_next h
  · simp [harm rel] at hno
  · have hc : cls rel = c := by simpa [harm rel] using hcls
    exact ⟨rel, _, takeException_holder_target c s, by rw [hc]⟩

/-- The class of a Breakpoint debug event (R80, R81). -/
def breakpointClass : Relation → EcClass
  | .lower => .breakpointLower
  | .current => .breakpointCurrent

/-- The class of a Watchpoint debug event (R84, R85). -/
def watchpointClass : Relation → EcClass
  | .lower => .watchpointLower
  | .current => .watchpointCurrent

theorem causeArm_breakpoint {p : Params} {inp : Inputs} (h : inp.cause = .breakpoint) (rel : Relation) :
    causeArm p inp rel = .cls (breakpointClass rel) := by
  cases rel <;> simp [causeArm, h, breakpointClass]

theorem causeArm_watchpoint {p : Params} {inp : Inputs} (h : inp.cause = .watchpoint) (rel : Relation) :
    causeArm p inp rel = .cls (watchpointClass rel) := by
  cases rel <;> simp [causeArm, h, watchpointClass]

theorem encodeEc_breakpointClass (rel : Relation) :
    encodeEc (breakpointClass rel) = 0b110000#6 ∨ encodeEc (breakpointClass rel) = 0b110001#6 := by
  cases rel with
  | lower => exact .inl rfl
  | current => exact .inr rfl

theorem encodeEc_watchpointClass (rel : Relation) :
    encodeEc (watchpointClass rel) = 0b110100#6 ∨ encodeEc (watchpointClass rel) = 0b110101#6 := by
  cases rel with
  | lower => exact .inl rfl
  | current => exact .inr rfl

/-- Settles O41: every row that goes on follows R91's arm of the cause, and for these two events that arm is a debug
class under either relation (R28). -/
theorem breakpointAndWatchpointEventsAreNeverAborts :
    Obligations.BreakpointAndWatchpointEventsAreNeverAborts := by
  intro i s t h
  constructor
  · intro hcause
    obtain ⟨rel, y, hy, hec⟩ := exec_next_records_of_causeArm_cls h (causeArm_breakpoint hcause)
    exact ⟨y, hy, hec ▸ encodeEc_breakpointClass rel⟩
  · intro hcause
    obtain ⟨rel, y, hy, hec⟩ := exec_next_records_of_causeArm_cls h (causeArm_watchpoint hcause)
    exact ⟨y, hy, hec ▸ encodeEc_watchpointClass rel⟩

end Sys2Proof.Machine
end

section
/-! SUPPORT. The records of the classes: the `EC` value a record prints is the code `encodeEc` gives its class, so a
class whose record is known has its code with it. -/

namespace Sys2Proof.Machine

@[simp] theorem record_ec (c : EcClass) : (record c).ec = encodeEc c := by
  cases c <;> rfl

/-- The value and the record of a class (a bold paragraph of R50 to R88), from the record alone. -/
theorem encodeEc_and_record_of_record_eq (c : EcClass) {r : EcRecord} (h : record c = r) :
    encodeEc c = r.ec ∧ record c = r :=
  ⟨by rw [← h, record_ec], h⟩

/-- Settles O1, class by class: the record of each is the one its rule prints, and its value comes with it. -/
theorem trapClassRecordsAreTheSourcesRecords : Obligations.TrapClassRecordsAreTheSourcesRecords :=
  ⟨encodeEc_and_record_of_record_eq .unknown rfl,
   encodeEc_and_record_of_record_eq .wfx rfl,
   encodeEc_and_record_of_record_eq .cp15McrMrc rfl,
   encodeEc_and_record_of_record_eq .cp15McrrMrrc rfl,
   encodeEc_and_record_of_record_eq .cp14McrMrc rfl,
   encodeEc_and_record_of_record_eq .cp14LdcStc rfl,
   encodeEc_and_record_of_record_eq .simdFpAccess rfl,
   encodeEc_and_record_of_record_eq .cp10Id rfl,
   encodeEc_and_record_of_record_eq .cp14McrrMrrc rfl,
   encodeEc_and_record_of_record_eq .illegalState rfl⟩

end Sys2Proof.Machine
end

section
namespace Sys2Proof.Machine

/-- Settles O2, class by class as O1: the record of each call or system register class is the one its rule (R60 to R66)
prints, and `encodeEc_and_record_of_record_eq` gives its value with it. -/
theorem callClassRecordsAreTheSourcesRecords : Obligations.CallClassRecordsAreTheSourcesRecords :=
  ⟨encodeEc_and_record_of_record_eq .svc32 rfl,
   encodeEc_and_record_of_record_eq .hvc32 rfl,
   encodeEc_and_record_of_record_eq .smc32 rfl,
   encodeEc_and_record_of_record_eq .svc64 rfl,
   encodeEc_and_record_of_record_eq .hvc64 rfl,
   encodeEc_and_record_of_record_eq .smc64 rfl,
   encodeEc_and_record_of_record_eq .sys64 rfl⟩

end Sys2Proof.Machine
end

section
namespace Sys2Proof.Machine

/-- Settles O3, class by class as O1: the record of each abort, alignment, floating-point or SError class is the one its
rule (R70 to R78) prints, and `encodeEc_and_record_of_record_eq` gives its value with it. Of the nine, only `dabtLower`
(R73) and `fpExc32` (R76) are printed with `AArch32: 1`. -/
theorem abortClassRecordsAreTheSourcesRecords : Obligations.AbortClassRecordsAreTheSourcesRecords :=
  ⟨encodeEc_and_record_of_record_eq .iabtLower rfl,
   encodeEc_and_record_of_record_eq .iabtCurrent rfl,
   encodeEc_and_record_of_record_eq .pcAlign rfl,
   encodeEc_and_record_of_record_eq .dabtLower rfl,
   encodeEc_and_record_of_record_eq .dabtCurrent rfl,
   encodeEc_and_record_of_record_eq .spAlign rfl,
   encodeEc_and_record_of_record_eq .fpExc32 rfl,
   encodeEc_and_record_of_record_eq .fpExc64 rfl,
   encodeEc_and_record_of_record_eq .serror rfl⟩

end Sys2Proof.Machine
end

section
namespace Sys2Proof.Machine

/-- Settles O4, class by class as O1: the record of each debug class is the one its rule (R80 to R88) prints, and
`encodeEc_and_record_of_record_eq` gives its value with it. Of the nine, only `bkpt32` (R86) is printed with
`AArch32: 1`, only `vectorCatch32` (R87) with `EL1: 0` and only `brk64` (R88) with `EL3: 1`. -/
theorem debugClassRecordsAreTheSourcesRecords : Obligations.DebugClassRecordsAreTheSourcesRecords :=
  ⟨encodeEc_and_record_of_record_eq .breakpointLower rfl,
   encodeEc_and_record_of_record_eq .breakpointCurrent rfl,
   encodeEc_and_record_of_record_eq .softstepLower rfl,
   encodeEc_and_record_of_record_eq .softstepCurrent rfl,
   encodeEc_and_record_of_record_eq .watchpointLower rfl,
   encodeEc_and_record_of_record_eq .watchpointCurrent rfl,
   encodeEc_and_record_of_record_eq .bkpt32 rfl,
   encodeEc_and_record_of_record_eq .vectorCatch32 rfl,
   encodeEc_and_record_of_record_eq .brk64 rfl⟩

end Sys2Proof.Machine
end

section
/-! SUPPORT. The code as bits: the decoder of bytes against the encoder, `decode_ec` against `encode_ec`, and the place
of a code in a syndrome word. -/

namespace Sys2Proof.Machine

/-! ## Bytes -/

/-- A byte value that decodes to a row is the row's code (R32, R33). -/
theorem code_toNat_of_decodeByte {n : Nat} {i : Instr} (h : decodeByte n = .ok i) : i.code.toNat = n := by
  unfold decodeByte at h
  split at h <;> cases h <;> rfl

/-- The decoder accepts one byte only, and that byte is the row's encoding. -/
theorem eq_encode_of_decode {bytes : List Byte} {i : Instr} (h : decode bytes = .ok i) : bytes = encode i := by
  match bytes, h with
  | [b], h =>
    have hcode : i.code.toNat = b.toNat := code_toNat_of_decodeByte h
    have hb : b = i.code.setWidth 8 := BitVec.eq_of_toNat_eq (by
      rw [BitVec.toNat_setWidth, ← hcode]
      exact (Nat.mod_eq_of_lt (i.code.isLt.trans (by decide))).symm)
    rw [encode, hb]

/-- Settles O5: an accepted byte string is the row's encoding by its code, and the encoding decodes by
`decode_encode`. -/
theorem decodeAcceptsExactlyTheEncodings : Obligations.DecodeAcceptsExactlyTheEncodings := fun bytes i =>
  ⟨eq_encode_of_decode, fun h => by rw [h, decode_encode]⟩

/-- Settles O6: each byte of a row is that row's encoding; the three ill-formed strings compute. -/
theorem writtenOutCodesDecodeToTheirRows : Obligations.WrittenOutCodesDecodeToTheirRows :=
  ⟨decode_encode .ecWfx, decode_encode .ecCp14McrrMrrc, decode_encode .ecSvc64, decode_encode .ecSys64,
   decode_encode .ecDabtLower, decode_encode .ecSerror, decode_encode .ecSoftstepCurrent, decode_encode .ecBrk64,
   decode_encode .reserved02, rfl, rfl, rfl⟩

/-! ## Six bits -/

theorem encodeEc_injective : Function.Injective encodeEc := fun c d h => by
  have hdec : decodeEc (encodeEc c) = decodeEc (encodeEc d) := by rw [h]
  simpa using hdec

/-- Everything `decode_ec` can answer: the class of the value, or the value itself as reserved (R40). -/
theorem decodeEc_cases (v : EcCode) :
    (∃ c, v = encodeEc c ∧ decodeEc v = .allocated c) ∨ decodeEc v = .reserved v := by
  unfold decodeEc
  split
  case h_36 => exact .inr rfl
  all_goals exact .inl ⟨_, BitVec.eq_of_toNat_eq ‹_›, rfl⟩

theorem decodeEc_of_ne_encodeEc {v : EcCode} (h : ∀ c, v ≠ encodeEc c) : decodeEc v = .reserved v :=
  (decodeEc_cases v).resolve_left fun ⟨c, hv, _⟩ => h c hv

/-- `decode_ec` of a row's code is the row's class, or reserves the code (R33). -/
theorem decodeEc_code (i : Instr) :
    decodeEc i.code = i.cls.elim (.reserved i.code) .allocated := by
  cases i <;> rfl

/-- Settles O7, from the two answers of `decode_ec`; the 29 reserved values are counted. -/
theorem decodeEcInvertsEncodeEcAndReservesTheRest : Obligations.DecodeEcInvertsEncodeEcAndReservesTheRest :=
  ⟨fun _ _ h => encodeEc_injective h, decodeEc_encodeEc, fun _ h => decodeEc_of_ne_encodeEc h, by decide,
   fun i => by rw [decodeEc_code]; cases i.cls <;> rfl⟩

/-! ## A syndrome word -/

/-- A bit of a word: below the field and above it the rest's, inside it also the code's (R41). -/
theorem getLsbD_wordOf {width ecLsb j : Nat} (ec : EcCode) (rest : BitVec width) (hj : j < width) :
    (wordOf ecLsb ec rest).getLsbD j = ((decide (ecLsb ≤ j) && ec.getLsbD (j - ecLsb)) || rest.getLsbD j) := by
  by_cases h : ecLsb ≤ j
  · simp [wordOf, hj, h, Nat.not_lt.2 h]
  · simp [wordOf, hj, h, Nat.lt_of_not_le h]

theorem getLsbD_wordOf_of_outside {width ecLsb j : Nat} (ec : EcCode) (rest : BitVec width)
    (h : j < ecLsb ∨ ecLsb + 6 ≤ j) : (wordOf ecLsb ec rest).getLsbD j = rest.getLsbD j := by
  by_cases hj : j < width
  · rw [getLsbD_wordOf ec rest hj]
    obtain hlow | hhigh := h
    · simp [Nat.not_le.2 hlow]
    · have hbit : ec.getLsbD (j - ecLsb) = false := BitVec.getLsbD_of_ge _ _ (by omega)
      simp [hbit]
  · rw [BitVec.getLsbD_of_ge _ _ (Nat.le_of_not_lt hj), BitVec.getLsbD_of_ge _ _ (Nat.le_of_not_lt hj)]

/-- The field of a word, where the rest is zero there, is the code (R41). -/
theorem ecOfWord_wordOf {width ecLsb : Nat} (ec : EcCode) (rest : BitVec width) (hfit : ecLsb + 6 ≤ width)
    (hrest : ∀ k < 6, rest.getLsbD (ecLsb + k) = false) : ecOfWord ecLsb (wordOf ecLsb ec rest) = ec := by
  apply BitVec.eq_of_getLsbD_eq
  intro k hk
  have hbit : (wordOf ecLsb ec rest).getLsbD (ecLsb + k) = ec.getLsbD k := by
    rw [getLsbD_wordOf ec rest (by omega), hrest k hk]
    simp
  simpa [ecOfWord, hk] using hbit

/-- Settles O8, bit by bit. -/
theorem ecOfWordReadsBackThePlacedCode : Obligations.EcOfWordReadsBackThePlacedCode :=
  fun _ _ ec rest hfit hrest =>
    ⟨ecOfWord_wordOf ec rest hfit hrest, fun _ hj => getLsbD_wordOf_of_outside ec rest hj⟩

/-- Settles O9: an ISS of `ISS_WIDTH` bits has no bit in the field above it, so O8's reading back applies (D22). -/
theorem syndromeWordShowsTheRecordedCode : Obligations.SyndromeWordShowsTheRecordedCode := by
  intro p y hiss hfit hlt
  refine ecOfWord_wordOf y.ec _ hfit fun k _ => ?_
  have hpow : y.iss < 2 ^ (p.ecLsb + k) := hlt.trans_le (Nat.pow_le_pow_right (by decide) (by omega))
  simp [BitVec.getLsbD_ofNat, Nat.testBit_lt_two_pow hpow]

/-! ## Formats and pages -/

theorem mem_all (c : EcClass) : c ∈ EcClass.all := by
  cases c <;> decide

/-- The page a record prints is the page of the format it names (R37). -/
theorem record_page (c : EcClass) : (record c).page = pageOf (issFormat c) := by
  cases c <;> rfl

/-- Settles O10: the lists are counted, and the page is read off class by class. -/
theorem issFormatsAndPagesOfTheTable : Obligations.IssFormatsAndPagesOfTheTable :=
  ⟨by decide, by decide, by decide, mem_all, record_page⟩

end Sys2Proof.Machine
end

section
/-! SUPPORT. The checks of R92 to R94 as the source's lists, what R91's arms can yield, and what follows for every row
that goes on. -/

namespace Sys2Proof.Machine

/-! ## The checks -/

theorem targetFlag_el1 (c : EcClass) : targetFlag c .el1 =
    decide (c ∉ ([.cp10Id, .hvc32, .smc32, .hvc64, .smc64, .vectorCatch32] : List EcClass)) := by
  cases c <;> rfl

theorem targetFlag_el2 (c : EcClass) : targetFlag c .el2 = true := by
  cases c <;> rfl

theorem targetFlag_el3 (c : EcClass) : targetFlag c .el3 =
    decide (c ∉ ([.cp10Id, .svc32, .hvc32, .fpExc32, .breakpointLower, .breakpointCurrent, .softstepLower,
      .softstepCurrent, .watchpointLower, .watchpointCurrent, .bkpt32, .vectorCatch32] : List EcClass)) := by
  cases c <;> rfl

/-- EL2 is marked for every class, so the marks of EL1 and EL3 decide (R93). -/
theorem targetFlag_of_marked {c : EcClass} {t : Target} (h1 : t = .el1 → targetFlag c .el1 = true)
    (h3 : t = .el3 → targetFlag c .el3 = true) : targetFlag c t = true := by
  cases t with
  | el1 => exact h1 rfl
  | el2 => exact targetFlag_el2 c
  | el3 => exact h3 rfl

theorem targetFlag_of_unmarked {c : EcClass} {t : Target} (h1 : targetFlag c .el1 = false) (h3 : targetFlag c .el3 = false)
    (ht : t ≠ .el2) : targetFlag c t = false := by
  cases t with
  | el1 => exact h1
  | el2 => exact absurd rfl ht
  | el3 => exact h3

theorem targetFlag_of_targetOk {p : Params} {c : EcClass} {t : Target} (h : targetOk p c t = true) :
    targetFlag c t = true := by
  simp only [targetOk, Bool.and_eq_true] at h
  exact h.1.1

theorem ne_of_unmarked {c : EcClass} {t u : Target} (ht : targetFlag c t = true) (hu : targetFlag c u = false) :
    t ≠ u := by
  rintro rfl
  simp [hu] at ht

/-- Settles O11: the level is marked, present and in AArch64; EL1 is always present (R93). -/
theorem targetOkIsTheMarkedLevels : Obligations.TargetOkIsTheMarkedLevels :=
  ⟨fun p c => ⟨by simp only [targetOk, targetFlag_el1, levelPresent, targetUsesAArch64, Bool.and_true],
     by simp only [targetOk, targetFlag_el2, levelPresent, targetUsesAArch64, Bool.true_and],
     by simp only [targetOk, targetFlag_el3, levelPresent, targetUsesAArch64]⟩,
   by decide, by decide, by decide⟩

theorem fromOk_aarch32 (c : EcClass) : fromOk c .aarch32 =
    decide (c ∈ ([.unknown, .wfx, .cp15McrMrc, .cp15McrrMrrc, .cp14McrMrc, .cp14LdcStc, .simdFpAccess, .cp10Id,
      .cp14McrrMrrc, .svc32, .hvc32, .smc32, .iabtLower, .dabtLower, .fpExc32, .bkpt32, .vectorCatch32] :
        List EcClass)) := by
  cases c <;> rfl

/-- From AArch64 the printed flag decides alone (R94). -/
theorem fromOk_aarch64 (c : EcClass) : fromOk c .aarch64 = (record c).aarch64 := by
  simp [fromOk, stateFlag]

/-- Settles O12, state by state; the counts and the list of the six are read off the 35 classes. -/
theorem fromOkIsTheAdmittedStates : Obligations.FromOkIsTheAdmittedStates :=
  ⟨fromOk_aarch32, fromOk_aarch64, by decide, by decide, by decide⟩

/-- Settles O13: the relation is the comparison of ranks, and the ranks of the 12 pairs are compared. -/
theorem relationIsTheOrderOfLevels : Obligations.RelationIsTheOrderOfLevels := by
  intro f t
  rw [relation_eq_lower, relation_eq_current, relation_eq_none]
  cases f <;> cases t <;> decide

/-! ## R91's arms -/

/-- The cause is an HVC or an SMC that the report says is disabled (R99). -/
abbrev isDisabledCall (inp : Inputs) : Prop :=
  (inp.cause = .hvc ∧ inp.trapConfig.hvcDisabled = true) ∨ (inp.cause = .smc ∧ inp.trapConfig.smcDisabled = true)

theorem causeArm_disabledCall {p : Params} {inp : Inputs} (h : isDisabledCall inp) (rel : Relation) :
    causeArm p inp rel = disabledCall p := by
  obtain ⟨hc, hd⟩ | ⟨hc, hd⟩ := h <;> simp [causeArm, hc, hd]

theorem causeArm_enabled_hvc {p : Params} {inp : Inputs} (hc : inp.cause = .hvc) (h : ¬ isDisabledCall inp)
    (rel : Relation) : causeArm p inp rel = .cls (if inp.execState = .aarch32 then .hvc32 else .hvc64) := by
  have hen : inp.trapConfig.hvcDisabled = false := by simpa [isDisabledCall, hc] using h
  cases hx : inp.execState <;> simp [causeArm, hc, hen, hx]

theorem causeArm_enabled_smc {p : Params} {inp : Inputs} (hc : inp.cause = .smc) (h : ¬ isDisabledCall inp)
    (rel : Relation) : causeArm p inp rel = .cls (if inp.execState = .aarch32 then .smc32 else .smc64) := by
  have hen : inp.trapConfig.smcDisabled = false := by simpa [isDisabledCall, hc] using h
  cases hx : inp.execState <;> simp [causeArm, hc, hen, hx]

/-- Everything R91's arm can answer for a cause that is no disabled call: a class, below the debug codes unless the
cause is a debug one (R108); no exception, for a failed condition check (R98); or one of the arms' own refusals. -/
theorem causeArm_cases (p : Params) {inp : Inputs} (hcall : ¬ isDisabledCall inp) (rel : Relation) :
    (∃ c, causeArm p inp rel = .cls c ∧ (isDebugCause inp.cause = false → (encodeEc c).toNat < 48)) ∨
    (causeArm p inp rel = .noException ∧ ∃ w, inp.cause = .wfx w false) ∨
    ∃ r, causeArm p inp rel = .refuse r ∧
      r ∈ ([.wrongExecState, .unnamedCoprocAccess, .exclusionsOverlap, .a32FpTrapAbsent] : List Refusal) := by
  generalize ha : causeArm p inp rel = a
  cases hc : inp.cause with
  | hvc =>
    rw [causeArm_enabled_hvc hc hcall] at ha
    exact .inl ⟨_, ha.symm, fun _ => by split <;> decide⟩
  | smc =>
    rw [causeArm_enabled_smc hc hcall] at ha
    exact .inl ⟨_, ha.symm, fun _ => by split <;> decide⟩
  | wfx w passed =>
    cases passed <;> simp only [causeArm, hc, Bool.false_eq_true, if_false, if_true] at ha <;> subst ha
    · exact .inr (.inl ⟨rfl, w, rfl⟩)
    · exact .inl ⟨_, rfl, fun _ => by decide⟩
  | coprocAccess cp kind =>
    cases cp <;> cases kind <;> simp only [causeArm, hc, require] at ha <;> (repeat' split at ha) <;> subst ha <;>
      simp [encodeEc]
  | breakpoint | softwareStep | watchpoint | vectorCatch | bkpt | brk =>
    simp only [causeArm, hc, require] at ha
    repeat' split at ha
    all_goals subst ha; simp [isDebugCause]
  | _ =>
    simp only [causeArm, hc, require] at ha
    repeat' split at ha
    all_goals subst ha; simp [encodeEc]

/-- Only a failed condition check and a disabled call give no exception (R98, R99). -/
theorem causeArm_eq_noException {p : Params} {inp : Inputs} {rel : Relation}
    (h : causeArm p inp rel = .noException) :
    (∃ w, inp.cause = .wfx w false) ∨ (p.disabledCallClass = none ∧ isDisabledCall inp) := by
  by_cases hcall : isDisabledCall inp
  · rw [causeArm_disabledCall hcall] at h
    exact .inr ⟨disabledCall_noException.1 h, hcall⟩
  · obtain ⟨c, hc, _⟩ | ⟨_, hw⟩ | ⟨r, hr, _⟩ := causeArm_cases p hcall rel
    · simp [hc] at h
    · exact .inl hw
    · simp [hr] at h

/-- A cause that is neither a debug cause nor a disabled call has a class below the debug codes (R108). -/
theorem code_lt_of_causeArm_cls {p : Params} {inp : Inputs} {rel : Relation} {c : EcClass}
    (hdebug : isDebugCause inp.cause = false) (hcall : ¬ isDisabledCall inp) (h : causeArm p inp rel = .cls c) :
    (encodeEc c).toNat < 48 := by
  obtain ⟨d, hd, hlt⟩ | ⟨hno, _⟩ | ⟨r, hr, _⟩ := causeArm_cases p hcall rel
  · have hdc : d = c := by simpa [hd] using h
    exact hdc ▸ hlt hdebug
  · simp [hno] at h
  · simp [hr] at h

/-- Settles O14: in the five pairs the relation is the arm's own test, and no other arm mentions it. -/
theorem onlyFivePairsOfClassesDependOnTheRelation : Obligations.OnlyFivePairsOfClassesDependOnTheRelation := by
  intro p inp
  refine ⟨fun ⟨k, h⟩ => ?_, fun ⟨k, h⟩ => ?_, fun h => ?_, fun h => ?_, fun h => ?_, fun hi hd hb hs hw => ?_⟩
  · simp [causeArm, h]
  · simp [causeArm, h]
  · exact ⟨causeArm_breakpoint h .lower, causeArm_breakpoint h .current⟩
  · simp [causeArm, h]
  · exact ⟨causeArm_watchpoint h .lower, causeArm_watchpoint h .current⟩
  · cases hc : inp.cause with
    | instructionAbort k => exact absurd hc (hi k)
    | dataAbort k => exact absurd hc (hd k)
    | breakpoint => exact absurd hc hb
    | softwareStep => exact absurd hc hs
    | watchpoint => exact absurd hc hw
    | coprocAccess cp kind => cases cp <;> cases kind <;> simp only [causeArm, hc]
    | _ => simp only [causeArm, hc]

/-- The classes of the six debug causes, and the state BKPT and BRK need (R80 to R88). -/
theorem causeArm_cls_of_isDebugCause {p : Params} {inp : Inputs} {rel : Relation} {c : EcClass}
    (hd : isDebugCause inp.cause = true) (h : causeArm p inp rel = .cls c) :
    (inp.cause = .breakpoint ∧ (c = .breakpointLower ∨ c = .breakpointCurrent)) ∨
    (inp.cause = .softwareStep ∧ (c = .softstepLower ∨ c = .softstepCurrent)) ∨
    (inp.cause = .watchpoint ∧ (c = .watchpointLower ∨ c = .watchpointCurrent)) ∨
    (inp.cause = .vectorCatch ∧ c = .vectorCatch32) ∨
    (inp.cause = .bkpt ∧ inp.execState = .aarch32 ∧ c = .bkpt32) ∨
    (inp.cause = .brk ∧ inp.execState = .aarch64 ∧ c = .brk64) := by
  cases hc : inp.cause with
  | breakpoint => cases rel <;> simp_all [causeArm]
  | softwareStep => cases rel <;> simp_all [causeArm]
  | watchpoint => cases rel <;> simp_all [causeArm]
  | vectorCatch => simp_all [causeArm]
  | bkpt => cases hx : inp.execState <;> simp_all [causeArm, require]
  | brk => cases hx : inp.execState <;> simp_all [causeArm, require]
  | _ => simp [isDebugCause, hc] at hd

/-! ## What a row records -/

/-- Settles O15: the holder rules of `raiseException`, field by field. -/
theorem raiseExceptionWritesOnlyTheTargetSyndrome : Obligations.RaiseExceptionWritesOnlyTheTargetSyndrome :=
  fun s ec fmt => ⟨raiseException_holder_target ec fmt s, fun _ hu => raiseException_holder_other ec fmt s hu,
    raiseException_params .., raiseException_inp .., raiseException_pending .., raiseException_handled ..,
    raiseException_issDraws ..⟩

theorem recorded_takeException (c : EcClass) (s : State) :
    Recorded (encodeEc c) (issFormat c) s (takeException c s) :=
  raiseExceptionWritesOnlyTheTargetSyndrome s (encodeEc c) (issFormat c)

/-- A recorded exception is one more draw, so it is never the state it was taken in. -/
theorem not_recorded_self {ec : EcCode} {fmt : IssFormat} {s : State} : ¬ Recorded ec fmt s s := by
  rintro ⟨_, _, _, _, _, _, hdraws⟩
  omega

/-- What is recorded when an exception of a class is taken is that class's code. -/
theorem eq_of_recorded_takeException {c d : EcClass} {fmt : IssFormat} {s : State}
    (h : Recorded (encodeEc c) fmt s (takeException d s)) : c = d := by
  obtain ⟨hy, _⟩ := h
  rw [takeException_holder_target] at hy
  exact (encodeEc_injective (congrArg Syndrome.ec (Option.some.inj hy))).symm

/-- A row that goes on where R91's arm is never `NoException` takes the exception of the arm's class. -/
theorem exec_next_takes {i : Instr} {s t : State} (h : exec i s = .next t)
    (hno : ∀ rel, causeArm s.params s.inp rel ≠ .noException) :
    ∃ rel c, causeArm s.params s.inp rel = .cls c ∧ targetOk s.params c s.inp.target = true ∧
      t = takeException c s := by
  obtain ⟨rel, _, _, ⟨harm, _⟩ | ⟨c, harm, _, hto, rfl⟩⟩ := exec_next h
  · exact absurd harm (hno rel)
  · exact ⟨rel, c, harm, hto, rfl⟩

/-- Settles O16: the inversion of a row, with R91's two reasons for no exception. -/
theorem aRowRecordsOneAdmittedClassOrNothing : Obligations.ARowRecordsOneAdmittedClassOrNothing := by
  intro i s t h
  obtain ⟨rel, _, _, ⟨harm, rfl⟩ | ⟨c, _, hfrom, hto, rfl⟩⟩ := exec_next h
  · exact .inl ⟨rfl, causeArm_eq_noException harm⟩
  · exact .inr ⟨c, hfrom, hto, recorded_takeException c s⟩

/-- Settles O17: each listed row is ill-formed as a class, and its listed value is its code. -/
theorem reservedRowsAreRefused : Obligations.ReservedRowsAreRefused := by
  intro s row hmem
  have hrow : row.1.wf = false ∧ row.1.code = row.2 := by
    revert row
    decide
  obtain ⟨hwf, hcode⟩ := hrow
  rw [exec_of_not_wf _ _ hwf, hcode]

/-- Settles O30: a disabled call that records a class records `disabled_call_class`, which R99 keeps apart from the
four. -/
theorem disabledCallsNeverRecordACallClass : Obligations.DisabledCallsNeverRecordACallClass := by
  intro i s t hwf hcall h
  obtain ⟨rel, _, _, ⟨_, rfl⟩ | ⟨c, harm, _, _, rfl⟩⟩ := exec_next h
  · exact .inl rfl
  · rw [causeArm_disabledCall hcall] at harm
    obtain ⟨hclass, _⟩ := disabledCall_cls harm
    have hnot : c.isEnabledCall = false := by
      simp only [Params.wf, hclass, Bool.and_eq_true, Bool.not_eq_true'] at hwf
      exact hwf.2.1
    refine .inr ⟨c, fun hmem => ?_, recorded_takeException c s⟩
    simp only [List.mem_cons, List.not_mem_nil, or_false] at hmem
    rcases hmem with rfl | rfl | rfl | rfl <;> cases hnot

/-- Settles O42: the class of a debug cause is one of nine, which its own marks keep to its levels; and a class from
`0b110000` up comes from a debug cause or a disabled call only. -/
theorem debugCausesAreRecordedOnlyWhereTheyAreMarked : Obligations.DebugCausesAreRecordedOnlyWhereTheyAreMarked := by
  intro i s t h
  constructor
  · intro hdebug
    have hno : ∀ rel, causeArm s.params s.inp rel ≠ .noException := fun rel harm => by
      obtain ⟨w, hc⟩ | ⟨_, ⟨hc, _⟩ | ⟨hc, _⟩⟩ := causeArm_eq_noException harm <;> simp [hc, isDebugCause] at hdebug
    obtain ⟨rel, c, harm, hto, rfl⟩ := exec_next_takes h hno
    refine ⟨_, takeException_holder_target c s, ?_⟩
    have hflag : targetFlag c s.inp.target = true := targetFlag_of_targetOk hto
    rcases causeArm_cls_of_isDebugCause hdebug harm with
      ⟨hc, rfl | rfl⟩ | ⟨hc, rfl | rfl⟩ | ⟨hc, rfl | rfl⟩ | ⟨hc, rfl⟩ | ⟨hc, hx, rfl⟩ | ⟨hc, hx, rfl⟩
    · exact .inl ⟨hc, ne_of_unmarked hflag rfl, .inl rfl⟩
    · exact .inl ⟨hc, ne_of_unmarked hflag rfl, .inr rfl⟩
    · exact .inr (.inl ⟨hc, ne_of_unmarked hflag rfl, .inl rfl⟩)
    · exact .inr (.inl ⟨hc, ne_of_unmarked hflag rfl, .inr rfl⟩)
    · exact .inr (.inr (.inl ⟨hc, ne_of_unmarked hflag rfl, .inl rfl⟩))
    · exact .inr (.inr (.inl ⟨hc, ne_of_unmarked hflag rfl, .inr rfl⟩))
    · have ht : s.inp.target = .el2 := by
        by_contra ht
        simp [targetFlag_of_unmarked (c := .vectorCatch32) rfl rfl ht] at hflag
      exact .inr (.inr (.inr (.inl ⟨hc, ht, rfl⟩)))
    · exact .inr (.inr (.inr (.inr (.inl ⟨hc, hx, ne_of_unmarked hflag rfl, rfl⟩))))
    · exact .inr (.inr (.inr (.inr (.inr ⟨hc, hx, rfl⟩))))
  · intro c hrec hcode
    obtain ⟨rel, _, _, ⟨_, rfl⟩ | ⟨d, harm, _, _, rfl⟩⟩ := exec_next h
    · exact absurd hrec not_recorded_self
    · obtain rfl := eq_of_recorded_takeException hrec
      by_cases hcall : isDisabledCall s.inp
      · rw [causeArm_disabledCall hcall] at harm
        exact .inr ⟨(disabledCall_cls harm).1, hcall⟩
      · refine .inl (Bool.eq_true_of_not_eq_false fun hdebug => ?_)
        exact absurd (code_lt_of_causeArm_cls hdebug hcall harm) (by omega)

/-- Settles O43: R91's arm of each of the two causes is its own class under either relation. -/
theorem misalignedPcAndSpAreNeverAborts : Obligations.MisalignedPcAndSpAreNeverAborts := by
  intro i s t h
  constructor
  · intro hc
    obtain ⟨_, y, hy, hec⟩ := exec_next_records_of_causeArm_cls (cls := fun _ => .pcAlign) h fun rel => by
      simp [causeArm, hc]
    exact ⟨y, hy, hec⟩
  · intro hc
    obtain ⟨_, y, hy, hec⟩ := exec_next_records_of_causeArm_cls (cls := fun _ => .spAlign) h fun rel => by
      simp [causeArm, hc]
    exact ⟨y, hy, hec⟩

end Sys2Proof.Machine
end

section
/-! SUPPORT. A class row against `classify`: the frame of a row as R91's outcome, the row that a cause selects, and the
row that it does not. -/

namespace Sys2Proof.Machine

/-! ## The frame of a row -/

theorem runArm_of_error {arm : Relation → Arm} {s : State} {r : Refusal} (h : checkedRelation s.inp = .error r) :
    runArm arm s = .refused r := by
  simp [runArm, h]

theorem runArm_of_stop {arm : Relation → Arm} {s : State} {rel : Relation} {r : Refusal}
    (hr : checkedRelation s.inp = .ok rel) (hs : causeStop s.inp = some r) : runArm arm s = .refused r := by
  simp [runArm, hr, hs]

/-- Once the relation is settled a row runs its arm for that relation alone. -/
theorem runArm_congr {arm arm' : Relation → Arm} {s : State} {rel : Relation}
    (hr : checkedRelation s.inp = .ok rel) (h : arm rel = arm' rel) : runArm arm s = runArm arm' s := by
  simp only [runArm, hr, h]

/-- A class row refuses what its frame refuses, whatever its arm. -/
theorem exec_of_error {i : Instr} {s : State} {r : Refusal} (hi : i.wf = true)
    (h : checkedRelation s.inp = .error r) : exec i s = .refused r := by
  obtain ⟨arm, hexec, _⟩ := exec_eq_runArm i s hi
  rw [hexec, runArm_of_error h]

theorem exec_of_stop {i : Instr} {s : State} {rel : Relation} {r : Refusal} (hi : i.wf = true)
    (hr : checkedRelation s.inp = .ok rel) (hs : causeStop s.inp = some r) : exec i s = .refused r := by
  obtain ⟨arm, hexec, _⟩ := exec_eq_runArm i s hi
  rw [hexec, runArm_of_stop hr hs]

theorem reportClass_of_refused {c : EcClass} {s : State} {r : Refusal}
    (h : admission s.params c s.inp.execState s.inp.target = some r) : reportClass c s = .refused r := by
  simp [reportClass, h]

theorem reportClass_of_admitted {c : EcClass} {s : State}
    (h : admission s.params c s.inp.execState s.inp.target = none) : reportClass c s = .next (takeException c s) := by
  simp [reportClass, h]

/-- What a row's arm comes to after every check of the frame, a function of the parameters and the report alone. -/
def settledArm (arm : Relation → Arm) (p : Params) (inp : Inputs) : Arm :=
  match checkedRelation inp with
  | .error r => .refuse r
  | .ok rel =>
    match causeStop inp with
    | some r => .refuse r
    | none =>
      match arm rel with
      | .cls c => (admission p c inp.execState inp.target).elim (.cls c) .refuse
      | a => a

theorem runArm_eq_outcomeOf (arm : Relation → Arm) (s : State) :
    runArm arm s = outcomeOf (settledArm arm s.params s.inp) s := by
  cases hr : checkedRelation s.inp with
  | error r => simp [runArm_of_error hr, settledArm, hr, outcomeOf]
  | ok rel =>
    cases hs : causeStop s.inp with
    | some r => simp [runArm_of_stop hr hs, settledArm, hr, hs, outcomeOf]
    | none =>
      cases ha : arm rel with
      | refuse r => simp [runArm, settledArm, hr, hs, ha, outcomeOf]
      | noException => simp [runArm, settledArm, hr, hs, ha, outcomeOf]
      | cls c =>
        cases had : admission s.params c s.inp.execState s.inp.target with
        | some r => simp [runArm, settledArm, hr, hs, ha, had, outcomeOf, reportClass_of_refused had]
        | none => simp [runArm, settledArm, hr, hs, ha, had, outcomeOf, reportClass_of_admitted had]

/-- For R91's own arm, and a cause that exists, this is `classify`. -/
theorem settledArm_causeArm (p : Params) {inp : Inputs} (hs : causeStop inp = none) :
    settledArm (causeArm p inp) p inp = classify p inp := by
  cases hr : checkedRelation inp with
  | error r => simp [settledArm, classify, hr]
  | ok rel =>
    cases ha : causeArm p inp rel with
    | refuse r => simp [settledArm, classify, hr, hs, ha]
    | noException => simp [settledArm, classify, hr, hs, ha]
    | cls c => cases had : admission p c inp.execState inp.target <;> simp [settledArm, classify, hr, hs, ha, had]

/-! ## The row a cause selects -/

/-- The row that a cause selects runs R91's arm of the cause. -/
theorem exec_arm_of_selectRow {i : Instr} {s : State} {rel : Relation} (hi : selectRow s.inp rel = .ok i) :
    ∃ arm, exec i s = runArm arm s ∧ arm rel = causeArm s.params s.inp rel := by
  cases hc : s.inp.cause with
  | coprocAccess cp kind =>
    cases cp <;> cases kind <;> simp only [selectRow, hc, reduceCtorEq] at hi <;> cases hi <;>
      exact ⟨_, rfl, by simp only [hc, causeArm]⟩
  | svc | hvc | smc | fpException =>
    cases hx : s.inp.execState <;> simp [selectRow, hc, hx] at hi <;> subst hi <;>
      exact ⟨_, rfl, by simp [hc, hx, causeArm]⟩
  | instructionAbort k | dataAbort k =>
    cases rel <;> simp [selectRow, hc] at hi <;> subst hi <;> exact ⟨_, rfl, by simp [hc, causeArm]⟩
  | breakpoint | softwareStep | watchpoint =>
    cases rel <;> simp [selectRow, hc] at hi <;> subst hi <;> exact ⟨_, rfl, by simp [hc, causeArm]⟩
  | _ =>
    simp only [selectRow, hc] at hi
    cases hi
    exact ⟨_, rfl, by simp only [hc, causeArm]⟩

/-- So it is `runArm` of R91's arm. -/
theorem exec_of_selectRow {i : Instr} {s : State} {rel : Relation} (hr : checkedRelation s.inp = .ok rel)
    (hi : selectRow s.inp rel = .ok i) : exec i s = runArm (causeArm s.params s.inp) s := by
  obtain ⟨arm, hexec, harm⟩ := exec_arm_of_selectRow hi
  rw [hexec, runArm_congr hr harm]

/-- A cause that selects no row has no arm in R91 either. -/
theorem causeArm_of_selectRow_error {p : Params} {inp : Inputs} {rel : Relation} {r : Refusal}
    (h : selectRow inp rel = .error r) : r = .unnamedCoprocAccess ∧ causeArm p inp rel = .refuse r := by
  cases hc : inp.cause with
  | coprocAccess cp kind =>
    cases cp <;> cases kind <;> simp only [selectRow, hc, reduceCtorEq] at h <;> cases h <;>
      exact ⟨rfl, by simp only [causeArm, hc]⟩
  | _ => simp [selectRow, hc] at h

/-- The row of a class that the cause does not select runs the diversion (log 30). -/
theorem exec_of_not_selectRow {c : EcClass} {s : State} {rel : Relation} (hr : checkedRelation s.inp = .ok rel)
    (hi : selectRow s.inp rel ≠ .ok c.row) : exec c.row s = runArm (divertedTo c s) s := by
  cases c <;> refine runArm_congr hr ?_ <;>
    (split <;> [exact absurd (by simp_all [selectRow, EcClass.row]) hi; rfl])

end Sys2Proof.Machine
end

section
/-! SUPPORT. What the row that a cause selects does: it records the class of R91's arm where R93 and R94 admit it, and
refuses where they do not or where the arm does. -/

namespace Sys2Proof.Machine

/-- The cause exists, the row is the one it selects, and R91's arm of the cause is the class. -/
structure Yields (i : Instr) (s : State) (rel : Relation) (c : EcClass) : Prop where
  present : causeStop s.inp = none
  selected : selectRow s.inp rel = .ok i
  arm : causeArm s.params s.inp rel = .cls c

section
variable {i : Instr} {s : State} {rel : Relation} {c : EcClass}

theorem exec_of_yields (hr : checkedRelation s.inp = .ok rel) (h : Yields i s rel c) : exec i s = reportClass c s := by
  rw [exec_of_selectRow hr h.selected, runArm_of_ok hr h.present, h.arm]

theorem exec_of_arm_refuse {r : Refusal} (hr : checkedRelation s.inp = .ok rel) (hs : causeStop s.inp = none)
    (hi : selectRow s.inp rel = .ok i) (ha : causeArm s.params s.inp rel = .refuse r) : exec i s = .refused r := by
  rw [exec_of_selectRow hr hi, runArm_of_ok hr hs, ha]

theorem exec_of_arm_noException (hr : checkedRelation s.inp = .ok rel) (hs : causeStop s.inp = none)
    (hi : selectRow s.inp rel = .ok i) (ha : causeArm s.params s.inp rel = .noException) : exec i s = .next s := by
  rw [exec_of_selectRow hr hi, runArm_of_ok hr hs, ha]

/-! ## Levels and states -/

theorem targetOk_of_canTake {t : Target} (hcan : canTake s t = true) (hflag : targetFlag c t = true) :
    targetOk s.params c t = true := by
  simpa [targetOk, hflag, canTake] using hcan

theorem checkedRelation_of_fromAArch32 (h : fromAArch32 s) : checkedRelation s.inp = .ok .lower :=
  checkedRelation_lower h.2

theorem checkedRelation_of_fromAArch64 (h : fromAArch64 s) : ∃ rel, checkedRelation s.inp = .ok rel := by
  obtain ⟨h64, hle⟩ := h
  obtain hlt | heq := hle.lt_or_eq
  · exact ⟨_, checkedRelation_lower hlt⟩
  · exact ⟨_, checkedRelation_current heq h64⟩

theorem checkedRelation_of_fromEither (h : fromEither s) : ∃ rel, checkedRelation s.inp = .ok rel := by
  obtain h32 | h64 := h
  · exact ⟨_, checkedRelation_of_fromAArch32 h32⟩
  · exact checkedRelation_of_fromAArch64 h64

/-! ## Completion and refusal -/

/-- An admitted class is recorded. -/
theorem records_of_targetOk (hr : checkedRelation s.inp = .ok rel) (h : Yields i s rel c)
    (hok : fromOk c s.inp.execState = true) (hto : targetOk s.params c s.inp.target = true) :
    Records i s (encodeEc c) (issFormat c) := by
  refine ⟨takeException c s, ?_, recorded_takeException c s⟩
  rw [exec_of_yields hr h, reportClass_of_admitted (admission_eq_none.2 ⟨hok, hto⟩)]

theorem records_of_yields (hr : checkedRelation s.inp = .ok rel) (hcan : canTake s s.inp.target = true)
    (hok : fromOk c s.inp.execState = true) (hflag : targetFlag c s.inp.target = true) (h : Yields i s rel c) :
    Records i s (encodeEc c) (issFormat c) :=
  records_of_targetOk hr h hok (targetOk_of_canTake hcan hflag)

theorem records_fromAArch32 (hfrom : fromAArch32 s) (hcan : canTake s s.inp.target = true)
    (hok : fromOk c .aarch32 = true) (hflag : targetFlag c s.inp.target = true) (h : Yields i s .lower c) :
    Records i s (encodeEc c) (issFormat c) :=
  records_of_yields (checkedRelation_of_fromAArch32 hfrom) hcan (hfrom.1 ▸ hok) hflag h

theorem records_fromAArch64 (hfrom : fromAArch64 s) (hcan : canTake s s.inp.target = true)
    (hok : fromOk c .aarch64 = true) (hflag : targetFlag c s.inp.target = true) (h : ∀ rel, Yields i s rel c) :
    Records i s (encodeEc c) (issFormat c) := by
  obtain ⟨rel, hr⟩ := checkedRelation_of_fromAArch64 hfrom
  exact records_of_yields hr hcan (hfrom.1 ▸ hok) hflag (h rel)

theorem records_fromEither (hfrom : fromEither s) (hcan : canTake s s.inp.target = true)
    (h32 : fromOk c .aarch32 = true) (h64 : fromOk c .aarch64 = true) (hflag : targetFlag c s.inp.target = true)
    (h : ∀ rel, Yields i s rel c) : Records i s (encodeEc c) (issFormat c) := by
  obtain hlow | h64' := hfrom
  · exact records_fromAArch32 hlow hcan h32 hflag (h .lower)
  · exact records_fromAArch64 h64' hcan h64 hflag h

/-- A class that is not marked for the target is refused (R93). -/
theorem exec_of_unmarked (hr : checkedRelation s.inp = .ok rel) (hok : fromOk c s.inp.execState = true)
    (hflag : targetFlag c s.inp.target = false) (h : Yields i s rel c) :
    exec i s = .refused .targetNotAdmitted := by
  have had : admission s.params c s.inp.execState s.inp.target = some .targetNotAdmitted := by
    simp [admission, hok, hflag]
  rw [exec_of_yields hr h, reportClass_of_refused had]

end

end Sys2Proof.Machine
end

section
/-! SUPPORT. The rows R50 to R88 on their own causes: what each records, and where it is refused. -/

namespace Sys2Proof.Machine

/-! ## EC 0b00xxxx -/

/-- Settles O18: the arm names the class whatever the report says, and it is admitted from both states (C4). -/
theorem unknownReasonRecordsEc000000 : Obligations.UnknownReasonRecordsEc000000 := fun s hc hcan hfrom =>
  records_fromEither (c := .unknown) hfrom hcan rfl rfl (targetFlag_of_marked (fun _ => rfl) fun _ => rfl) fun rel => by
    constructor <;> simp [causeStop, selectRow, causeArm, hc]

/-- Settles O19: a trapped wait whose check passed exists and its arm is its own class (R51). -/
theorem trappedWfxRecordsEc000001 : Obligations.TrappedWfxRecordsEc000001 := fun s w hc htrap hcan hfrom =>
  records_fromEither (c := .wfx) hfrom hcan rfl rfl (targetFlag_of_marked (fun _ => rfl) fun _ => rfl) fun rel => by
    constructor <;> simp [causeStop, selectRow, causeArm, hc, htrap]

/-- Settles O20: a failed check needs no trap to exist, and its arm is `NoException` (R98). -/
theorem wfxThatFailsItsConditionCheckCausesNoException :
    Obligations.WfxThatFailsItsConditionCheckCausesNoException := fun s w hc hfrom => by
  obtain ⟨rel, hr⟩ := checkedRelation_of_fromEither hfrom
  exact exec_of_arm_noException hr (by simp [causeStop, hc]) (by simp [selectRow, hc]) (by simp [causeArm, hc])

/-- An arm that tests `uses_unknown` records `EC_UNKNOWN` where the test holds and its own class where it fails (R95). -/
theorem records_divertible {i : Instr} {s : State} {c : EcClass} (hfrom : fromAArch32 s)
    (hcan : canTake s s.inp.target = true) (hok : fromOk c .aarch32 = true) (hflag : targetFlag c s.inp.target = true)
    (hs : causeStop s.inp = none) (hi : selectRow s.inp .lower = .ok i)
    (harm : causeArm s.params s.inp .lower = if s.inp.usesUnknown then .cls .unknown else .cls c) :
    if s.inp.usesUnknown then Records i s (encodeEc .unknown) (issFormat .unknown)
    else Records i s (encodeEc c) (issFormat c) := by
  split <;> rename_i hu
  · exact records_fromAArch32 hfrom hcan rfl (targetFlag_of_marked (fun _ => rfl) fun _ => rfl)
      ⟨hs, hi, by simpa [hu] using harm⟩
  · exact records_fromAArch32 hfrom hcan hok hflag ⟨hs, hi, by simpa [hu] using harm⟩

/-- Settles O21: the arm of each of the three accesses tests `uses_unknown`. -/
theorem divertibleCoprocessorTrapsRecordTheirOwnCodeOr000000 :
    Obligations.DivertibleCoprocessorTrapsRecordTheirOwnCodeOr000000 := fun s hfrom hcan htrap => by
  have h32 : s.inp.execState = .aarch32 := hfrom.1
  refine ⟨fun hc => ?_, fun hc => ?_, fun hc => ?_⟩
  · exact records_divertible (c := .cp15McrMrc) hfrom hcan rfl (targetFlag_of_marked (fun _ => rfl) fun _ => rfl)
      (by simp [causeStop, hc, htrap]) (by simp [selectRow, hc]) (by simp [causeArm, require, hc, h32])
  · exact records_divertible (c := .cp15McrrMrrc) hfrom hcan rfl (targetFlag_of_marked (fun _ => rfl) fun _ => rfl)
      (by simp [causeStop, hc, htrap]) (by simp [selectRow, hc]) (by simp [causeArm, require, hc, h32])
  · exact records_divertible (c := .cp14McrMrc) hfrom hcan rfl (targetFlag_of_marked (fun _ => rfl) fun _ => rfl)
      (by simp [causeStop, hc, htrap]) (by simp [selectRow, hc]) (by simp [causeArm, require, hc, h32])

/-- Settles O22: neither arm tests `uses_unknown` (D9). -/
theorem undivertedCp14TrapsRecordTheirOwnCode : Obligations.UndivertedCp14TrapsRecordTheirOwnCode :=
  fun s hfrom hcan htrap => by
  have h32 : s.inp.execState = .aarch32 := hfrom.1
  refine ⟨fun hc hreg => ?_, fun hc => ?_⟩
  · exact records_fromAArch32 (c := .cp14LdcStc) hfrom hcan rfl (targetFlag_of_marked (fun _ => rfl) fun _ => rfl)
      (by constructor <;> simp [causeStop, selectRow, causeArm, require, hc, htrap, h32, hreg])
  · exact records_fromAArch32 (c := .cp14McrrMrrc) hfrom hcan rfl (targetFlag_of_marked (fun _ => rfl) fun _ => rfl)
      (by constructor <;> simp [causeStop, selectRow, causeArm, require, hc, htrap, h32])

/-- Settles O23: the class is admitted from both states (C3). -/
theorem simdFpAccessRecordsEc000111 : Obligations.SimdFpAccessRecordsEc000111 := fun s hc htrap hcan hfrom =>
  records_fromEither (c := .simdFpAccess) hfrom hcan rfl rfl (targetFlag_of_marked (fun _ => rfl) fun _ => rfl)
    fun rel => by constructor <;> simp [causeStop, selectRow, causeArm, hc, htrap]

/-- Settles O24: the arm tests `uses_simd_fp` (R96), and its own class is marked for EL2 only. -/
theorem cp10IdReadRecordsEc001000AtEl2Or000111 : Obligations.Cp10IdReadRecordsEc001000AtEl2Or000111 :=
  fun s reg hc hfrom hcan htrap => by
  have h32 : s.inp.execState = .aarch32 := hfrom.1
  have hown (hu : s.inp.usesSimdFp = false) : Yields .ecCp10Id s .lower .cp10Id := by
    constructor <;> simp [causeStop, selectRow, causeArm, require, hc, htrap, h32, hu]
  refine ⟨fun hu => ?_, fun hu ht => ?_, fun hu ht => ?_⟩
  · exact records_fromAArch32 (c := .simdFpAccess) hfrom hcan rfl (targetFlag_of_marked (fun _ => rfl) fun _ => rfl)
      (by constructor <;> simp [causeStop, selectRow, causeArm, require, hc, htrap, h32, hu])
  · exact records_fromAArch32 hfrom hcan rfl (ht ▸ targetFlag_el2 _) (hown hu)
  · exact exec_of_unmarked (checkedRelation_of_fromAArch32 hfrom) (h32 ▸ rfl) (targetFlag_of_unmarked rfl rfl ht)
      (hown hu)

/-- Settles O25: with `PSTATE.IL = 1` the cause exists (R12, R59). -/
theorem illegalExecutionStateRecordsEc001110 : Obligations.IllegalExecutionStateRecordsEc001110 :=
  fun s hc hil hcan hfrom =>
  records_fromAArch64 (c := .illegalState) hfrom hcan rfl (targetFlag_of_marked (fun _ => rfl) fun _ => rfl)
    fun rel => by constructor <;> simp [causeStop, selectRow, causeArm, hc, hil]

/-! ## EC 0b01xxxx -/

/-- Settles O26: the Execution state chooses row and class together, and EL3 is not marked for the AArch32 class. -/
theorem svcRecordsEc010001Or010101 : Obligations.SvcRecordsEc010001Or010101 := fun s hc hcan => by
  have h32 (hfrom : fromAArch32 s) : Yields .ecSvc32 s .lower .svc32 := by
    constructor <;> simp [causeStop, selectRow, causeArm, hc, hfrom.1]
  refine ⟨fun hfrom ht => ?_, fun hfrom ht => ?_, fun hfrom => ?_⟩
  · exact records_fromAArch32 hfrom hcan rfl (targetFlag_of_marked (fun _ => rfl) (absurd · ht)) (h32 hfrom)
  · exact exec_of_unmarked (checkedRelation_of_fromAArch32 hfrom) (hfrom.1 ▸ rfl) (ht ▸ rfl) (h32 hfrom)
  · exact records_fromAArch64 (c := .svc64) hfrom hcan rfl (targetFlag_of_marked (fun _ => rfl) fun _ => rfl)
      fun rel => by constructor <;> simp [causeStop, selectRow, causeArm, hc, hfrom.1]

/-- Settles O27: an HVC that is not disabled has the class of its state; EL1 is marked for neither. -/
theorem enabledHvcRecordsEc010010Or010110 : Obligations.EnabledHvcRecordsEc010010Or010110 := fun s hc hen hcan => by
  have h64 (hfrom : fromAArch64 s) (rel : Relation) : Yields .ecHvc64 s rel .hvc64 := by
    constructor <;> simp [causeStop, selectRow, causeArm, hc, hen, hfrom.1]
  refine ⟨fun hfrom ht => ?_, fun hfrom ht => ?_, fun hfrom ht => ?_⟩
  · exact records_fromAArch32 (c := .hvc32) hfrom hcan rfl (ht ▸ targetFlag_el2 _)
      (by constructor <;> simp [causeStop, selectRow, causeArm, hc, hen, hfrom.1])
  · exact records_fromAArch64 hfrom hcan rfl (targetFlag_of_marked (absurd · ht) fun _ => rfl) (h64 hfrom)
  · obtain ⟨rel, hr⟩ := checkedRelation_of_fromAArch64 hfrom
    exact exec_of_unmarked hr (hfrom.1 ▸ rfl) (ht ▸ rfl) (h64 hfrom rel)

/-- Settles O28: an SMC that is not disabled has the class of its state, and both are marked above EL1. -/
theorem enabledSmcRecordsEc010011Or010111 : Obligations.EnabledSmcRecordsEc010011Or010111 :=
  fun s hc hen hcan ht => by
  refine ⟨fun hfrom => ?_, fun hfrom => ?_⟩
  · exact records_fromAArch32 (c := .smc32) hfrom hcan rfl (targetFlag_of_marked (absurd · ht) fun _ => rfl)
      (by constructor <;> simp [causeStop, selectRow, causeArm, hc, hen, hfrom.1])
  · exact records_fromAArch64 (c := .smc64) hfrom hcan rfl (targetFlag_of_marked (absurd · ht) fun _ => rfl)
      fun rel => by constructor <;> simp [causeStop, selectRow, causeArm, hc, hen, hfrom.1]

/-- A disabled call exists, selects the row of its Execution state, and has the arm `disabled_call_class` (R99). -/
theorem disabledCall_selects {s : State} {i : Instr}
    (h : (s.inp.cause = .hvc ∧ s.inp.trapConfig.hvcDisabled = true ∧
        ((i = .ecHvc32 ∧ fromAArch32 s) ∨ (i = .ecHvc64 ∧ fromAArch64 s))) ∨
      (s.inp.cause = .smc ∧ s.inp.trapConfig.smcDisabled = true ∧
        ((i = .ecSmc32 ∧ fromAArch32 s) ∨ (i = .ecSmc64 ∧ fromAArch64 s)))) :
    ∃ rel, checkedRelation s.inp = .ok rel ∧ causeStop s.inp = none ∧ selectRow s.inp rel = .ok i ∧
      causeArm s.params s.inp rel = disabledCall s.params := by
  obtain ⟨hc, hd, hrow⟩ | ⟨hc, hd, hrow⟩ := h <;> obtain ⟨rfl, hfrom⟩ | ⟨rfl, hfrom⟩ := hrow
  · exact ⟨.lower, checkedRelation_of_fromAArch32 hfrom, by simp [causeStop, hc],
      by simp [selectRow, hc, hfrom.1], causeArm_disabledCall (.inl ⟨hc, hd⟩) _⟩
  · obtain ⟨rel, hr⟩ := checkedRelation_of_fromAArch64 hfrom
    exact ⟨rel, hr, by simp [causeStop, hc], by simp [selectRow, hc, hfrom.1],
      causeArm_disabledCall (.inl ⟨hc, hd⟩) _⟩
  · exact ⟨.lower, checkedRelation_of_fromAArch32 hfrom, by simp [causeStop, hc],
      by simp [selectRow, hc, hfrom.1], causeArm_disabledCall (.inr ⟨hc, hd⟩) _⟩
  · obtain ⟨rel, hr⟩ := checkedRelation_of_fromAArch64 hfrom
    exact ⟨rel, hr, by simp [causeStop, hc], by simp [selectRow, hc, hfrom.1],
      causeArm_disabledCall (.inr ⟨hc, hd⟩) _⟩

/-- Settles O29: the arm of a disabled call is `disabledCall`, and its three answers are the three clauses. -/
theorem disabledCallsGiveTheDisabledCallClass : Obligations.DisabledCallsGiveTheDisabledCallClass := by
  intro s i h
  obtain ⟨rel, hr, hs, hi, harm⟩ := disabledCall_selects h
  refine ⟨fun hnone => ?_, fun hclass hno => ?_, fun c hclass hfeature hok hto => ?_⟩
  · exact exec_of_arm_noException hr hs hi (harm.trans (disabledCall_noException.2 hnone))
  · exact exec_of_arm_refuse hr hs hi (harm.trans (by simp [disabledCall, hclass, require, Params.canRecord, hno]))
  · have hcan : s.params.canRecord c = true := by
      by_cases hc : c = .fpExc32 <;> simp [Params.canRecord, hc, hfeature]
    exact records_of_targetOk hr ⟨hs, hi, harm.trans (by simp [disabledCall, hclass, require, hcan])⟩ hok hto

/-- Settles O31: the arm tests that at most one predicate holds and then each in turn (R97); all four classes are
admitted from AArch64 at every level. -/
theorem sys64TrapRecordsOneOfFourCodes : Obligations.Sys64TrapRecordsOneOfFourCodes := by
  intro s hc hfrom hcan htrap
  obtain ⟨rel, hr⟩ := checkedRelation_of_fromAArch64 hfrom
  have hs : causeStop s.inp = none := by simp [causeStop, hc, htrap]
  have hi : selectRow s.inp rel = .ok .ecSys64 := by simp [selectRow, hc]
  have harm : causeArm s.params s.inp rel =
      require (atMostOne s.inp.usesUnknown s.inp.usesWfx s.inp.usesSimdFp) .exclusionsOverlap
        (if s.inp.usesUnknown then .cls .unknown
          else if s.inp.usesWfx then .cls .wfx
          else if s.inp.usesSimdFp then .cls .simdFpAccess
          else .cls .sys64) := by
    simp [causeArm, hc, hfrom.1, require]
  have hrec {c : EcClass} (harm : causeArm s.params s.inp rel = .cls c) (hok : fromOk c .aarch64 = true)
      (h1 : targetFlag c .el1 = true) (h3 : targetFlag c .el3 = true) : Records .ecSys64 s (encodeEc c) (issFormat c) :=
    records_of_yields hr hcan (hfrom.1 ▸ hok) (targetFlag_of_marked (fun _ => h1) fun _ => h3) ⟨hs, hi, harm⟩
  have hrefuse (harm : causeArm s.params s.inp rel = .refuse .exclusionsOverlap) :
      exec .ecSys64 s = .refused .exclusionsOverlap := exec_of_arm_refuse hr hs hi harm
  cases hu : s.inp.usesUnknown <;> cases hw : s.inp.usesWfx <;> cases hf : s.inp.usesSimdFp <;>
    rw [hu, hw, hf] at harm
  · exact hrec (c := .sys64) harm rfl rfl rfl
  · exact hrec (c := .simdFpAccess) harm rfl rfl rfl
  · exact hrec (c := .wfx) harm rfl rfl rfl
  · exact hrefuse harm
  · exact hrec (c := .unknown) harm rfl rfl rfl
  · exact hrefuse harm
  · exact hrefuse harm
  · exact hrefuse harm

/-! ## EC 0b10xxxx -/

/-- Settles O32: the arm of an Instruction Abort tests the relation and not the kind; C1 admits the lower class from
AArch32. -/
theorem instructionAbortCodeDependsOnTheRelationOnly : Obligations.InstructionAbortCodeDependsOnTheRelationOnly :=
  fun s kind hc hcan => by
  refine ⟨fun hlow => ?_, fun hcur h64 => ?_⟩
  · exact records_of_yields (c := .iabtLower) (checkedRelation_lower hlow) hcan (by cases s.inp.execState <;> rfl)
      (targetFlag_of_marked (fun _ => rfl) fun _ => rfl)
      (by constructor <;> simp [causeStop, selectRow, causeArm, hc])
  · exact records_of_yields (c := .iabtCurrent) (checkedRelation_current hcur h64) hcan (h64 ▸ rfl)
      (targetFlag_of_marked (fun _ => rfl) fun _ => rfl)
      (by constructor <;> simp [causeStop, selectRow, causeArm, hc])

/-- An alignment fault exists where the access is misaligned, and the other kinds of Data Abort always (R27). -/
theorem causeStop_dataAbort {inp : Inputs} {kind : DataAbortKind} (hc : inp.cause = .dataAbort kind)
    (h : kind = .alignmentFault → inp.misalignedData = true) : causeStop inp = none := by
  cases kind with
  | alignmentFault => simp [causeStop, hc, h rfl]
  | mmuFault | syncExternalAbort | syncParityError => simp [causeStop, hc]

/-- Settles O33: the arm of a Data Abort tests the relation and not the kind. -/
theorem dataAbortCodeDoesNotDependOnTheKind : Obligations.DataAbortCodeDoesNotDependOnTheKind :=
  fun s kind hc hcan halign => by
  have hs : causeStop s.inp = none := causeStop_dataAbort hc halign
  refine ⟨fun hlow => ?_, fun hcur h64 => ?_⟩
  · exact records_of_yields (c := .dabtLower) (checkedRelation_lower hlow) hcan (by cases s.inp.execState <;> rfl)
      (targetFlag_of_marked (fun _ => rfl) fun _ => rfl) ⟨hs, by simp [selectRow, hc], by simp [causeArm, hc]⟩
  · exact records_of_yields (c := .dabtCurrent) (checkedRelation_current hcur h64) hcan (h64 ▸ rfl)
      (targetFlag_of_marked (fun _ => rfl) fun _ => rfl) ⟨hs, by simp [selectRow, hc], by simp [causeArm, hc]⟩

/-- Settles O34: where the predicate holds the cause exists, and its arm is its own class (R72, R75). -/
theorem pcAndSpMisalignmentRecordTheirOwnCodes : Obligations.PcAndSpMisalignmentRecordTheirOwnCodes :=
  fun s hfrom hcan => by
  refine ⟨fun hc hpc => ?_, fun hc hsp hchecked => ?_⟩
  · exact records_fromAArch64 (c := .pcAlign) hfrom hcan rfl (targetFlag_of_marked (fun _ => rfl) fun _ => rfl)
      fun rel => by constructor <;> simp [causeStop, selectRow, causeArm, hc, hpc]
  · exact records_fromAArch64 (c := .spAlign) hfrom hcan rfl (targetFlag_of_marked (fun _ => rfl) fun _ => rfl)
      fun rel => by constructor <;> simp [causeStop, selectRow, causeArm, hc, hsp, hchecked]

/-- Settles O35: the Execution state chooses row and class, and only the AArch32 arm tests the feature (R76, R77). -/
theorem fpExceptionRecordsEc101000Or101100 : Obligations.FpExceptionRecordsEc101000Or101100 := fun s hc hcan => by
  refine ⟨fun hfrom ht hfp => ?_, fun hfrom => ?_⟩
  · exact records_fromAArch32 (c := .fpExc32) hfrom hcan rfl (targetFlag_of_marked (fun _ => rfl) (absurd · ht))
      (by constructor <;> simp [causeStop, selectRow, causeArm, require, hc, hfp, hfrom.1])
  · exact records_fromAArch64 (c := .fpExc64) hfrom hcan rfl (targetFlag_of_marked (fun _ => rfl) fun _ => rfl)
      fun rel => by constructor <;> simp [causeStop, selectRow, causeArm, hc, hfrom.1]

/-- An AArch32 floating-point exception without the feature is refused by its arm (R111). -/
theorem causeArm_fpException_absent {p : Params} {inp : Inputs} (hc : inp.cause = .fpException)
    (h32 : inp.execState = .aarch32) (hfp : p.hasA32FpTrap = false) (rel : Relation) :
    causeArm p inp rel = .refuse .a32FpTrapAbsent := by
  simp [causeArm, hc, h32, hfp, require]

/-- Settles O36: no arm yields a class that cannot be recorded, so no row records the code of one; an AArch32
floating-point exception has a refusing arm. -/
theorem withoutTheA32FpTrapTheCodeStaysAllocatedAndIsNotRecorded :
    Obligations.WithoutTheA32FpTrapTheCodeStaysAllocatedAndIsNotRecorded := by
  refine ⟨fun i s t hfp h => ?_, fun i s t hc h32 hfp h => ?_, fun s hc hfrom hfp => ?_, rfl⟩
  · obtain ⟨rel, _, _, ⟨_, rfl⟩ | ⟨c, harm, _, _, rfl⟩⟩ := exec_next h
    · exact .inl rfl
    · have hne : c ≠ .fpExc32 := by simpa [Params.canRecord, hfp] using causeArm_cls_canRecord harm
      exact .inr ⟨fun u hu => raiseException_holder_other _ _ s hu, _, takeException_holder_target c s,
        fun hec => hne (encodeEc_injective hec)⟩
  · obtain ⟨rel, _, _, ⟨harm, _⟩ | ⟨c, harm, _⟩⟩ := exec_next h <;>
      simp [causeArm_fpException_absent hc h32 hfp] at harm
  · exact exec_of_arm_refuse (checkedRelation_of_fromAArch32 hfrom) (by simp [causeStop, hc])
      (by simp [selectRow, hc, hfrom.1]) (causeArm_fpException_absent hc hfrom.1 hfp _)

/-- Settles O37: a pending SError exists (R102), and its arm is its own class. -/
theorem pendingSErrorRecordsEc101111 : Obligations.PendingSErrorRecordsEc101111 := fun s hc hpending hcan hfrom =>
  records_fromAArch64 (c := .serror) hfrom hcan rfl (targetFlag_of_marked (fun _ => rfl) fun _ => rfl)
    fun rel => by constructor <;> simp [causeStop, selectRow, causeArm, hc, hpending]

/-! ## EC 0b11xxxx -/

/-- Settles O38: the arm of each of the three events tests the relation; all six classes are marked for EL1 and EL2. -/
theorem debugEventsRecordTheCodeOfTheirRelation : Obligations.DebugEventsRecordTheCodeOfTheirRelation :=
  fun s h64 ht hcan => by
  have hrec {i : Instr} {rel : Relation} (c : EcClass) (hr : checkedRelation s.inp = .ok rel)
      (hok : fromOk c .aarch64 = true) (h1 : targetFlag c .el1 = true) (h : Yields i s rel c) :
      Records i s (encodeEc c) (issFormat c) :=
    records_of_yields hr hcan (h64 ▸ hok) (targetFlag_of_marked (fun _ => h1) (absurd · ht)) h
  refine ⟨fun hlow => ?_, fun hcur => ?_⟩
  · have hr := checkedRelation_lower hlow
    refine ⟨fun hc => hrec .breakpointLower hr rfl rfl ?_, fun hc => hrec .softstepLower hr rfl rfl ?_,
      fun hc => hrec .watchpointLower hr rfl rfl ?_⟩ <;>
      constructor <;> simp [causeStop, selectRow, causeArm, hc]
  · have hr := checkedRelation_current hcur h64
    refine ⟨fun hc => hrec .breakpointCurrent hr rfl rfl ?_, fun hc => hrec .softstepCurrent hr rfl rfl ?_,
      fun hc => hrec .watchpointCurrent hr rfl rfl ?_⟩ <;>
      constructor <;> simp [causeStop, selectRow, causeArm, hc]

/-- Settles O39: each arm requires its Execution state (R86, R88). -/
theorem breakpointInstructionsRecordEc111000Or111100 :
    Obligations.BreakpointInstructionsRecordEc111000Or111100 := fun s hcan => by
  refine ⟨fun hc hfrom ht => ?_, fun hc hfrom => ?_, fun hc hfrom => ?_, fun hc hfrom => ?_⟩
  · exact records_fromAArch32 (c := .bkpt32) hfrom hcan rfl (targetFlag_of_marked (fun _ => rfl) (absurd · ht))
      (by constructor <;> simp [causeStop, selectRow, causeArm, require, hc, hfrom.1])
  · exact records_fromAArch64 (c := .brk64) hfrom hcan rfl (targetFlag_of_marked (fun _ => rfl) fun _ => rfl)
      fun rel => by constructor <;> simp [causeStop, selectRow, causeArm, require, hc, hfrom.1]
  · obtain ⟨rel, hr⟩ := checkedRelation_of_fromAArch64 hfrom
    exact exec_of_arm_refuse hr (by simp [causeStop, hc]) (by simp [selectRow, hc])
      (by simp [causeArm, require, hc, hfrom.1])
  · exact exec_of_arm_refuse (checkedRelation_of_fromAArch32 hfrom) (by simp [causeStop, hc])
      (by simp [selectRow, hc]) (by simp [causeArm, require, hc, hfrom.1])

/-- Settles O40: the class is admitted from both states (C2) and marked for EL2 only. -/
theorem vectorCatchRecordsEc111010AtEl2 : Obligations.VectorCatchRecordsEc111010AtEl2 := fun s hc hcan hfrom => by
  have hown (rel : Relation) : Yields .ecVectorCatch32 s rel .vectorCatch32 := by
    constructor <;> simp [causeStop, selectRow, causeArm, hc]
  refine ⟨fun ht => ?_, fun ht => ?_⟩
  · exact records_fromEither hfrom hcan rfl rfl (ht ▸ targetFlag_el2 _) hown
  · obtain ⟨rel, hr⟩ := checkedRelation_of_fromEither hfrom
    exact exec_of_unmarked hr (by cases s.inp.execState <;> rfl) (targetFlag_of_unmarked rfl rfl ht) (hown rel)

/-! ## Refusals that come before the arm -/

/-- Settles O44: the frame of every class row settles the relation first (R91, R92). -/
theorem refusedRelationsRefuseEveryClassRow : Obligations.RefusedRelationsRefuseEveryClassRow := fun _ _ hi =>
  ⟨fun habove => exec_of_error hi (checkedRelation_above habove),
   fun hcur h32 => exec_of_error hi (checkedRelation_aarch32_current hcur h32)⟩

/-- Settles O45: the frame of every class row asks next whether the cause exists, and each clause is a case of
`causeStop`. -/
theorem causesThatDoNotExistAreRefused : Obligations.CausesThatDoNotExistAreRefused := by
  intro i s hi hfrom
  obtain ⟨rel, hr⟩ := checkedRelation_of_fromEither hfrom
  have hstop {r : Refusal} (hs : causeStop s.inp = some r) : exec i s = .refused r := exec_of_stop hi hr hs
  refine ⟨fun hc hil => hstop ?_, fun hc hpc => hstop ?_, fun hc hsp => hstop ?_, fun hc hdata => hstop ?_,
    fun hc hpending => hstop ?_, fun w hc htrap => hstop ?_, fun hc htrap => hstop ?_,
    fun hc htrap hreg => hstop ?_⟩
  · simp [causeStop, hc, hil]
  · simp [causeStop, hc, hpc]
  · simp only [causeStop, hc, hsp, Bool.false_eq_true, if_false]
  · simp [causeStop, hc, hdata]
  · simp [causeStop, hc, hpending]
  · simp [causeStop, hc, htrap]
  · obtain hc | hc | ⟨cp, kind, hc⟩ := hc
    · simp [causeStop, hc, htrap]
    · simp [causeStop, hc, htrap]
    · cases cp <;> cases kind <;> simp [causeStop, hc, htrap]
  · simp [causeStop, hc, htrap, hreg]

end Sys2Proof.Machine
end

section
/-! SUPPORT. A step by the event of its front presentation; `classify` against the step; and the report as all that a
recorded code depends on. -/

namespace Sys2Proof.Machine

/-! ## A step, event by event -/

section
variable {s : State} {p : Presentation} {rest : List Presentation} (hp : s.pending = p :: rest)
include hp

theorem step_of_code {b : Byte} {i : Instr} (he : p.event = .code b) (hd : decode [b] = .ok i) :
    step s = exec i (s.latch p.inputs rest) := by
  simp [step, fetch, hp, he, hd]

theorem step_of_undecodable {b : Byte} {e : DecodeError} (he : p.event = .code b) (hd : decode [b] = .error e) :
    step s = .refused (.undecodable e) := by
  simp [step, fetch, hp, he, hd]

theorem step_of_handlerRead {u : Target} (he : p.event = .handlerRead u) :
    step s = handlerRead u (s.latch p.inputs rest) := by
  simp [step, fetch, hp, he]

theorem step_of_handlerWord {u : Target} {w : Nat} (he : p.event = .handlerWord u w) :
    step s = handlerWord u w (s.latch p.inputs rest) := by
  simp [step, fetch, hp, he]

theorem step_of_return_or_noCause (he : p.event = .exceptionReturn ∨ p.event = .noCause) :
    step s = .next (s.latch p.inputs rest) := by
  obtain he | he := he <;> simp [step, fetch, hp, he, exceptionReturn]

variable {others : List Inputs} (he : p.event = .causes others)
include he

theorem step_of_relation_error {r : Refusal}
    (hr : checkedRelation (selectByPriority p.inputs others) = .error r) : step s = .refused r := by
  simp [step, fetch, fetchCause, hp, he, hr]

theorem step_of_selectRow_error {rel : Relation} {r : Refusal}
    (hr : checkedRelation (selectByPriority p.inputs others) = .ok rel)
    (hi : selectRow (selectByPriority p.inputs others) rel = .error r) : step s = .refused r := by
  simp [step, fetch, fetchCause, hp, he, hr, hi]

theorem step_of_selectRow {rel : Relation} {i : Instr}
    (hr : checkedRelation (selectByPriority p.inputs others) = .ok rel)
    (hi : selectRow (selectByPriority p.inputs others) rel = .ok i) :
    step s = exec i (s.latch (selectByPriority p.inputs others) rest) := by
  simp [step, fetch, fetchCause, hp, he, hr, hi, decode_encode]

/-- Causes that arise at once are the one that `priority` selects, presented alone (R103). -/
theorem step_of_causes : step s = step
    { s with pending := { inputs := selectByPriority p.inputs others, event := .causes [] } :: rest } := by
  simp [step, fetch, hp, he, State.latch, selectByPriority]

end

/-- Settles O46: the event's own equation of the step. -/
theorem stepRunsTheDecodedRow : Obligations.StepRunsTheDecodedRow := fun _ _ _ _ hp =>
  ⟨fun _ he hd => step_of_code hp he hd, fun _ he hr hi => step_of_selectRow hp he hr hi⟩

/-- Settles O52: the event's own equation of the step. -/
theorem returnsAndStepsWithoutACauseWriteNothing : Obligations.ReturnsAndStepsWithoutACauseWriteNothing :=
  fun _ _ _ hp he => step_of_return_or_noCause hp he

/-- Settles O58: the cause that `priority` selects is the first or one of the others. -/
theorem priorityPresentsOneOfTheCauses : Obligations.PriorityPresentsOneOfTheCauses :=
  fun _ first others _ hp =>
    ⟨selectByPriority first others, List.mem_cons.2 (selectByPriority_mem first others), step_of_causes hp rfl⟩

/-! ## `classify` -/

/-- Everything behind a class that `classify` answers (R91). -/
theorem classify_cls {p : Params} {inp : Inputs} {c : EcClass} (h : classify p inp = .cls c) :
    ∃ rel, checkedRelation inp = .ok rel ∧ causeArm p inp rel = .cls c ∧ fromOk c inp.execState = true ∧
      targetOk p c inp.target = true := by
  unfold classify at h
  split at h
  · cases h
  rename_i rel hr
  split at h
  · cases h
  · cases h
  rename_i d harm
  split at h
  · cases h
  rename_i had
  cases h
  obtain ⟨hok, hto⟩ := admission_eq_none.1 had
  exact ⟨rel, hr, harm, hok, hto⟩

theorem classify_of_admitted {p : Params} {inp : Inputs} {rel : Relation} {c : EcClass}
    (hr : checkedRelation inp = .ok rel) (harm : causeArm p inp rel = .cls c)
    (hok : fromOk c inp.execState = true) (hto : targetOk p c inp.target = true) : classify p inp = .cls c := by
  simp [classify, hr, harm, admission_eq_none.2 ⟨hok, hto⟩]

/-- Settles O47: the row that the cause selects runs R91's arm, and a cause that selects none has a refusing arm. -/
theorem stepOnAPresentedCauseIsClassifyThenReport : Obligations.StepOnAPresentedCauseIsClassifyThenReport := by
  intro s inputs rest hp hs
  cases hr : checkedRelation inputs with
  | error r =>
    rw [step_of_relation_error hp rfl hr]
    simp [classify, hr, outcomeOf]
  | ok rel =>
    cases hi : selectRow inputs rel with
    | error r =>
      obtain ⟨_, harm⟩ := causeArm_of_selectRow_error (p := s.params) hi
      rw [step_of_selectRow_error hp rfl hr hi]
      simp [classify, hr, harm, outcomeOf]
    | ok i =>
      have hexec : exec i (s.latch inputs rest) = outcomeOf (settledArm (causeArm s.params inputs) s.params inputs)
          (s.latch inputs rest) := by
        rw [exec_of_selectRow (s := s.latch inputs rest) hr hi, runArm_eq_outcomeOf, latch_params, latch_inp]
      rw [step_of_selectRow hp rfl hr hi, ← settledArm_causeArm s.params hs]
      exact hexec

/-- The report of a class's own row classifies to the class under the default parameters (95 section 2.8). -/
theorem classify_rowReport (c : EcClass) :
    causeStop (rowReport c.row) = none ∧ classify Params.vectorDefaults (rowReport c.row) = .cls c := by
  cases c <;> decide

/-- Settles O59: each class from the report of its own row, and admission from R91's last two lines. -/
theorem classifyReachesEveryClassAndOnlyAdmittedOnes : Obligations.ClassifyReachesEveryClassAndOnlyAdmittedOnes :=
  ⟨fun c => ⟨rowReport c.row, classify_rowReport c⟩, fun _ _ c h => by
    obtain ⟨_, _, _, hok, hto⟩ := classify_cls h
    exact ⟨hok, hto, decodeEc_encodeEc c⟩⟩

/-- Settles O60: a row that the cause does not select runs the diversion, which yields R91's class or nothing. -/
theorem aRowFromOutsideRunsOnlyForItsCause : Obligations.ARowFromOutsideRunsOnlyForItsCause := by
  intro c s t h
  obtain ⟨rel, hr, _, _⟩ := exec_next h
  by_cases hi : selectRow s.inp rel = .ok c.row
  · exact .inl ⟨rel, hr, hi⟩
  · rw [exec_of_not_selectRow hr hi] at h
    obtain ⟨rel', hr', _, ⟨hno, _⟩ | ⟨d, hdiv, hreport⟩⟩ := runArm_next h
    · exact absurd hno divertedTo_ne_noException
    · obtain ⟨rfl, harm⟩ := divertedTo_cls hdiv
      obtain ⟨hok, hto, _⟩ := reportClass_next hreport
      exact .inr (classify_of_admitted hr' harm hok hto)

/-! ## Two exceptions -/

/-- A step on a cause that exists and classifies takes the exception of its class. -/
theorem step_of_classify_cls {s : State} {inp : Inputs} {rest : List Presentation} {c : EcClass}
    (hp : s.pending = { inputs := inp, event := .causes [] } :: rest) (hs : causeStop inp = none)
    (hc : classify s.params inp = .cls c) : step s = .next (takeException c (s.latch inp rest)) := by
  rw [stepOnAPresentedCauseIsClassifyThenReport s inp rest hp hs, hc, outcomeOf]

@[simp] theorem takeException_params (c : EcClass) (s : State) : (takeException c s).params = s.params :=
  raiseException_params ..
@[simp] theorem takeException_inp (c : EcClass) (s : State) : (takeException c s).inp = s.inp :=
  raiseException_inp ..
@[simp] theorem takeException_pending (c : EcClass) (s : State) : (takeException c s).pending = s.pending :=
  raiseException_pending ..
@[simp] theorem takeException_handled (c : EcClass) (s : State) : (takeException c s).handled = s.handled :=
  raiseException_handled ..
theorem takeException_holder_other (c : EcClass) (s : State) {u : Target} (h : u ≠ s.inp.target) :
    (takeException c s).holder u = s.holder u :=
  raiseException_holder_other _ _ s h

/-- An exception taken on a report just taken in, seen at the report's target. -/
theorem takeException_latch_holder_target (c : EcClass) (s : State) (inp : Inputs) (rest : List Presentation) :
    ∃ y, (takeException c (s.latch inp rest)).holder inp.target = some y ∧ y.ec = encodeEc c :=
  ⟨_, takeException_holder_target c (s.latch inp rest), rfl⟩

theorem takeException_latch_holder_other (c : EcClass) (s : State) (inp : Inputs) (rest : List Presentation)
    {u : Target} (h : u ≠ inp.target) : (takeException c (s.latch inp rest)).holder u = s.holder u := by
  rw [takeException_holder_other c (s.latch inp rest) h, latch_holder]

/-- Settles O56: each of the two steps takes its exception, and the second leaves every holder but its target's. -/
theorem twoExceptionsOverwriteAtOneLevelAndKeepApartAtTwo :
    Obligations.TwoExceptionsOverwriteAtOneLevelAndKeepApartAtTwo := by
  intro s a b rest c d hp ha hb hc hd
  have hfirst := step_of_classify_cls hp ha hc
  have hsecond := step_of_classify_cls (s := takeException c (s.latch a ({ inputs := b, event := .causes [] } :: rest)))
    (rest := rest) (takeException_pending ..) hb (by simpa using hd)
  refine ⟨_, (run_of_next (M := Sys2Proof.core) hfirst).trans (run_of_next (M := Sys2Proof.core) hsecond), by simp,
    takeException_latch_holder_target .., fun hab => ?_, fun u hua hub => ?_⟩
  · rw [takeException_latch_holder_other d _ b rest hab]
    exact takeException_latch_holder_target ..
  · rw [takeException_latch_holder_other d _ b rest hub, takeException_latch_holder_other c _ a _ hua]

/-! ## The report is all that counts -/

theorem row_of_cls {i : Instr} {c : EcClass} (h : i.cls = some c) : i = c.row := by
  cases i <;> cases h <;> rfl

/-- A row comes to one and the same answer in two states with the same parameters and the same report. -/
theorem exec_of_same_report (i : Instr) {s s' : State} (hparams : s.params = s'.params) (hinp : s.inp = s'.inp) :
    ∃ a, exec i s = outcomeOf a s ∧ exec i s' = outcomeOf a s' := by
  cases hwf : i.wf with
  | false => exact ⟨.refuse (.reservedCode i.code), exec_of_not_wf i s hwf, exec_of_not_wf i s' hwf⟩
  | true =>
    cases hr : checkedRelation s.inp with
    | error r => exact ⟨.refuse r, exec_of_error hwf hr, exec_of_error hwf (hinp ▸ hr)⟩
    | ok rel =>
      by_cases hi : selectRow s.inp rel = .ok i
      · refine ⟨settledArm (causeArm s.params s.inp) s.params s.inp, ?_, ?_⟩
        · rw [exec_of_selectRow hr hi, runArm_eq_outcomeOf]
        · rw [exec_of_selectRow (hinp ▸ hr) (hinp ▸ hi), runArm_eq_outcomeOf, hparams, hinp]
      · obtain ⟨c, hc⟩ := Option.isSome_iff_exists.1 hwf
        obtain rfl := row_of_cls hc
        have hdiv : divertedTo c s = divertedTo c s' := by
          funext rel
          simp only [divertedTo, hparams, hinp]
        refine ⟨settledArm (divertedTo c s) s.params s.inp, ?_, ?_⟩
        · rw [exec_of_not_selectRow hr hi, runArm_eq_outcomeOf]
        · rw [exec_of_not_selectRow (hinp ▸ hr) (hinp ▸ hi), runArm_eq_outcomeOf, hdiv, hparams, hinp]

/-- So does a step on presented causes or on a code. -/
theorem step_of_same_report {s s' : State} {p : Presentation} {rest rest' : List Presentation}
    (hparams : s.params = s'.params) (hp : s.pending = p :: rest) (hp' : s'.pending = p :: rest')
    (he : (∃ others, p.event = .causes others) ∨ ∃ b, p.event = .code b) :
    ∃ a inp, step s = outcomeOf a (s.latch inp rest) ∧ step s' = outcomeOf a (s'.latch inp rest') := by
  have hexec (i : Instr) (inp : Inputs) : ∃ a, exec i (s.latch inp rest) = outcomeOf a (s.latch inp rest) ∧
      exec i (s'.latch inp rest') = outcomeOf a (s'.latch inp rest') := exec_of_same_report i hparams rfl
  obtain ⟨others, he⟩ | ⟨b, he⟩ := he
  · cases hr : checkedRelation (selectByPriority p.inputs others) with
    | error r =>
      exact ⟨.refuse r, p.inputs, step_of_relation_error hp he hr, step_of_relation_error hp' he hr⟩
    | ok rel =>
      cases hi : selectRow (selectByPriority p.inputs others) rel with
      | error r =>
        exact ⟨.refuse r, p.inputs, step_of_selectRow_error hp he hr hi, step_of_selectRow_error hp' he hr hi⟩
      | ok i =>
        rw [step_of_selectRow hp he hr hi, step_of_selectRow hp' he hr hi]
        obtain ⟨a, ha⟩ := hexec i (selectByPriority p.inputs others)
        exact ⟨a, _, ha⟩
  · cases hd : decode [b] with
    | error e =>
      exact ⟨.refuse (.undecodable e), p.inputs, step_of_undecodable hp he hd, step_of_undecodable hp' he hd⟩
    | ok i =>
      rw [step_of_code hp he hd, step_of_code hp' he hd]
      obtain ⟨a, ha⟩ := hexec i p.inputs
      exact ⟨a, _, ha⟩

theorem outcomeOf_eq_refused {a : Arm} {s : State} {r : Refusal} : outcomeOf a s = .refused r ↔ a = .refuse r := by
  cases a <;> simp [outcomeOf]

/-- Settles O57: both steps come to the same answer of R91, and a class leaves the same code at the same level. -/
theorem recordedCodeIsAFunctionOfTheReport : Obligations.RecordedCodeIsAFunctionOfTheReport := by
  intro s s' p rest rest' hparams hp hp' he
  obtain ⟨a, inp, hstep, hstep'⟩ := step_of_same_report hparams hp hp' he
  rw [hstep, hstep']
  refine ⟨fun r => by rw [outcomeOf_eq_refused, outcomeOf_eq_refused], fun t ht => ?_⟩
  cases a with
  | refuse r => cases ht
  | noException =>
    cases ht
    exact ⟨_, rfl, fun u => .inl ⟨latch_holder .., latch_holder ..⟩⟩
  | cls c =>
    cases ht
    refine ⟨_, rfl, fun u => ?_⟩
    by_cases hu : u = inp.target
    · subst hu
      obtain ⟨y, hy, hec⟩ := takeException_latch_holder_target c s inp rest
      obtain ⟨y', hy', hec'⟩ := takeException_latch_holder_target c s' inp rest'
      exact .inr ⟨y, y', hy, hy', hec.trans hec'.symm⟩
    · exact .inl ⟨takeException_latch_holder_other c s inp rest hu,
        takeException_latch_holder_other c s' inp rest' hu⟩

end Sys2Proof.Machine
end

section
/-! SUPPORT. The invariant: what a step leaves of the state, that it keeps every syndrome legal, and what follows for
runs and for handlers. -/

namespace Sys2Proof.Machine

/-! ## What a row and a step leave unchanged -/

/-- A row leaves the parameters, the report and the list, and every holder but its target's. -/
theorem exec_next_frame {i : Instr} {s t : State} (h : exec i s = .next t) :
    t.params = s.params ∧ t.inp = s.inp ∧ t.pending = s.pending ∧
      ∀ u : Target, u ≠ s.inp.target → t.holder u = s.holder u := by
  obtain ⟨_, _, _, ⟨_, rfl⟩ | ⟨c, _, _, _, rfl⟩⟩ := exec_next h
  · exact ⟨rfl, rfl, rfl, fun _ _ => rfl⟩
  · exact ⟨takeException_params c s, takeException_inp c s, takeException_pending c s,
      fun _ hu => takeException_holder_other c s hu⟩

/-- Settles O51: of what a step can do only running a row can write a holder, and a row writes its target's. -/
theorem onlyAReportChangesASyndrome : Obligations.OnlyAReportChangesASyndrome := by
  intro s t h
  obtain ⟨p, rest, hp, hrow | ⟨u, c, _, rfl, _⟩ | ⟨rfl, _⟩⟩ := step_next h
  · obtain ⟨inp, i, hexec, he⟩ := hrow
    obtain ⟨hparams, hinp, hpending, hother⟩ := exec_next_frame hexec
    have hevent : (∃ others, p.event = .causes others) ∨ ∃ b, p.event = .code b := by
      obtain ⟨others, he, _⟩ | ⟨b, he, _⟩ := he
      · exact .inl ⟨others, he⟩
      · exact .inr ⟨b, he⟩
    refine ⟨hparams, p, hpending ▸ hp, fun u hchanged => ⟨hevent, ?_⟩⟩
    by_contra hu
    exact hchanged ((hother u (hinp ▸ hu)).trans (latch_holder ..))
  · exact ⟨rfl, p, hp, fun v hchanged => absurd (by simp) hchanged⟩
  · exact ⟨rfl, p, hp, fun v hchanged => absurd (latch_holder ..) hchanged⟩

theorem step_next_params {s t : State} (h : step s = .next t) : t.params = s.params :=
  (onlyAReportChangesASyndrome s t h).1

theorem step_next_pending {s t : State} (h : step s = .next t) : ∃ p, s.pending = p :: t.pending := by
  obtain ⟨_, p, hp, _⟩ := onlyAReportChangesASyndrome s t h
  exact ⟨p, hp⟩

/-! ## Legal states -/

theorem legal_iff {s : State} : s.legal = true ↔
    (∀ u, holderLegal s.params u (s.holder u) = true) ∧ handledLegal s.params s.handled = true := by
  simp only [State.legal, Bool.and_eq_true]
  constructor
  · rintro ⟨⟨⟨h1, h2⟩, h3⟩, hd⟩
    exact ⟨fun u => by cases u <;> assumption, hd⟩
  · rintro ⟨hu, hd⟩
    exact ⟨⟨⟨hu .el1, hu .el2⟩, hu .el3⟩, hd⟩

/-- A written holder is legal exactly if it holds the code of a class of its level that can be recorded (R112, R113). -/
theorem holderLegal_some {p : Params} {u : Target} {y : Syndrome} : holderLegal p u (some y) = true ↔
    y.iss < 2 ^ p.issWidth ∧ ∃ c, y.ec = encodeEc c ∧ targetOk p c u = true ∧ p.canRecord c = true := by
  obtain ⟨c, hy, hdec⟩ | hres := decodeEc_cases y.ec
  · simp only [holderLegal, hdec, Bool.and_eq_true, decide_eq_true_eq]
    refine and_congr_right fun _ => ⟨fun h => ⟨c, hy, h⟩, ?_⟩
    rintro ⟨d, hd, h⟩
    rwa [encodeEc_injective (hy.symm.trans hd)]
  · have hnot : ∀ c, y.ec ≠ encodeEc c := fun c hc => by simp [hc] at hres
    simp [holderLegal, hres, hnot]

/-- A handler's dispatch on a class of its level keeps a state legal. -/
theorem legal_setHandled {s : State} {u : Target} {c : EcClass} (h : s.legal = true)
    (hto : targetOk s.params c u = true) : (s.setHandled u c).legal = true := by
  obtain ⟨hholders, _⟩ := legal_iff.1 h
  exact legal_iff.2 ⟨fun v => by simpa using hholders v, hto⟩

theorem drawIss_lt (fmt : IssFormat) (s : State) : drawIss fmt s < 2 ^ s.params.issWidth :=
  Nat.mod_lt _ (Nat.two_pow_pos _)

/-- The exception of a class of the target that can be recorded keeps a state legal. -/
theorem legal_takeException {s : State} {c : EcClass} (h : s.legal = true)
    (hto : targetOk s.params c s.inp.target = true) (hcan : s.params.canRecord c = true) :
    (takeException c s).legal = true := by
  obtain ⟨hholders, hhandled⟩ := legal_iff.1 h
  refine legal_iff.2 ⟨fun u => ?_, by simpa using hhandled⟩
  rw [takeException_params]
  by_cases hu : u = s.inp.target
  · rw [hu, takeException_holder_target]
    exact holderLegal_some.2 ⟨drawIss_lt _ s, c, rfl, hto, hcan⟩
  · rw [takeException_holder_other c s hu]
    exact hholders u

/-- Every row keeps a state legal: R91's arms yield only classes that can be recorded, and R93 admits the target. -/
theorem exec_keeps_legal {i : Instr} {s t : State} (h : s.legal = true) (hexec : exec i s = .next t) :
    t.legal = true := by
  obtain ⟨_, _, _, ⟨_, rfl⟩ | ⟨c, harm, _, hto, rfl⟩⟩ := exec_next hexec
  · exact h
  · exact legal_takeException h hto (causeArm_cls_canRecord harm)

/-- Taking in a report changes nothing that `State.legal` looks at. -/
theorem legal_latch {s : State} (h : s.legal = true) (inp : Inputs) (rest : List Presentation) :
    (s.latch inp rest).legal = true :=
  h

/-- Settles O48, by what a step can do: run a row, serve a handler, or only take in the report. -/
theorem stepKeepsEverySyndromeLegal : Obligations.StepKeepsEverySyndromeLegal := by
  intro s t h hstep
  obtain ⟨p, rest, _, ⟨inp, i, hexec, _⟩ | ⟨u, c, hto, rfl, _⟩ | ⟨rfl, _⟩⟩ := step_next hstep
  · exact exec_keeps_legal (legal_latch h inp rest) hexec
  · exact legal_setHandled (legal_latch h p.inputs rest) hto
  · exact legal_latch h p.inputs rest

/-- Settles O49: no holder is written, and the rest computes. -/
theorem resetLeavesEverySyndromeUnwritten : Obligations.ResetLeavesEverySyndromeUnwritten := by
  refine ⟨fun t => ?_, rfl, rfl, fun t => ?_, rfl⟩ <;> cases t <;> rfl

/-! ## Runs -/

/-- What every step keeps, every run keeps. -/
theorem run_keeps {P : State → Prop} (hkeeps : ∀ s t, P s → step s = .next t → P t) {k : Nat} {s t : State}
    (h : P s) (hrun : Sys2Proof.core.run k s = .next t) : P t := by
  induction k generalizing s with
  | zero =>
    cases hrun
    exact h
  | succ k ih =>
    cases hstep : step s with
    | next s' => exact ih (hkeeps s s' h hstep) ((run_of_next (M := Sys2Proof.core) hstep).symm.trans hrun)
    | fault r => cases (run_of_fault (M := Sys2Proof.core) hstep).symm.trans hrun
    | refused r => cases (run_of_refused (M := Sys2Proof.core) hstep).symm.trans hrun

/-- What no step from a state with a kept property is refused for, no run from one is refused for. -/
theorem run_ne_refused {P : State → Prop} {r : Refusal} (hkeeps : ∀ s t, P s → step s = .next t → P t)
    (hsafe : ∀ s, P s → step s ≠ .refused r) {k : Nat} {s : State} (h : P s) :
    Sys2Proof.core.run k s ≠ .refused r := by
  induction k generalizing s with
  | zero => exact fun hrun => by cases hrun
  | succ k ih =>
    intro hrun
    cases hstep : step s with
    | next s' => exact ih (hkeeps s s' h hstep) ((run_of_next (M := Sys2Proof.core) hstep).symm.trans hrun)
    | fault r' => cases (run_of_fault (M := Sys2Proof.core) hstep).symm.trans hrun
    | refused r' =>
      cases (run_of_refused (M := Sys2Proof.core) hstep).symm.trans hrun
      exact hsafe s h hstep

/-- Settles O50: a step keeps a state legal (O48) and its parameters. -/
theorem runsKeepEverySyndromeLegal : Obligations.RunsKeepEverySyndromeLegal := fun _ s _ h hrun =>
  run_keeps (P := fun u => u.legal = true ∧ u.params = s.params)
    (fun u v hu hstep =>
      ⟨stepKeepsEverySyndromeLegal u v hu.1 hstep, (step_next_params hstep).trans hu.2⟩)
    ⟨h, rfl⟩ hrun

/-! ## Handlers -/

/-- A handler that dispatches on the code of a class of its level reaches that class's arm (R113). -/
theorem handlerDispatch_encodeEc {u : Target} {c : EcClass} {s : State} (hto : targetOk s.params c u = true) :
    handlerDispatch u (encodeEc c) s = .next (s.setHandled u c) := by
  simp [handlerDispatch, hto]

theorem handlerDispatch_reserved {u : Target} {v : EcCode} (s : State) (h : decodeEc v = .reserved v) :
    handlerDispatch u v s = .refused (.reservedCode v) := by
  simp [handlerDispatch, h]

theorem handlerRead_of_unwritten {u : Target} {s : State} (hlevel : levelPresent s.params u = true)
    (h : s.holder u = none) : handlerRead u s = .fault (.unwrittenSyndrome u) := by
  simp [handlerRead, hlevel, h]

theorem handlerRead_of_written {u : Target} {s : State} {y : Syndrome} (hlevel : levelPresent s.params u = true)
    (h : s.holder u = some y) : handlerRead u s = handlerDispatch u y.ec s := by
  simp [handlerRead, hlevel, h]

theorem handlerWord_of_present {u : Target} {s : State} (w : Nat) (hlevel : levelPresent s.params u = true) :
    handlerWord u w s = handlerDispatch u (ecOfWord s.params.ecLsb (BitVec.ofNat s.params.wordWidth w)) s := by
  simp [handlerWord, hlevel]

/-- In a legal state a handler's read of a written holder reaches the arm of a class of its level. -/
theorem handlerRead_of_legal {u : Target} {s : State} {y : Syndrome} (hlegal : s.legal = true)
    (hlevel : levelPresent s.params u = true) (h : s.holder u = some y) :
    ∃ c, y.ec = encodeEc c ∧ targetOk s.params c u = true ∧ handlerRead u s = .next (s.setHandled u c) := by
  obtain ⟨hholders, _⟩ := legal_iff.1 hlegal
  obtain ⟨_, c, hec, hto, _⟩ := holderLegal_some.1 (h ▸ hholders u)
  exact ⟨c, hec, hto, by rw [handlerRead_of_written hlevel h, hec, handlerDispatch_encodeEc hto]⟩

/-- Settles O53: the step is the handler's read on the state with the report taken in, which is as legal. -/
theorem handlerReadReachesTheArmOfTheRecordedClass : Obligations.HandlerReadReachesTheArmOfTheRecordedClass := by
  intro s p rest u hlegal hp he hlevel
  rw [step_of_handlerRead hp he]
  exact ⟨fun hnone => handlerRead_of_unwritten hlevel ((latch_holder ..).trans hnone),
    fun y hy => handlerRead_of_legal (legal_latch hlegal p.inputs rest) hlevel ((latch_holder ..).trans hy)⟩

/-- Settles O54: the step is the handler's dispatch on the word's EC field. -/
theorem handlerOfAnOutsideWordDispatchesOnItsCode : Obligations.HandlerOfAnOutsideWordDispatchesOnItsCode := by
  intro s p rest u w hp he hlevel
  rw [step_of_handlerWord hp he, handlerWord_of_present (s := s.latch p.inputs rest) w hlevel]
  simp only [latch_params]
  exact ⟨fun c hc hto => by rw [hc]; exact handlerDispatch_encodeEc hto,
    fun v hv hres => by rw [hv, handlerDispatch_reserved _ hres]⟩

/-! ## Reserved codes -/

theorem checkedRelation_ne_reserved {inp : Inputs} {v : EcCode} :
    checkedRelation inp ≠ .error (.reservedCode v) := by
  unfold checkedRelation
  split
  · simp
  · simp
  · split <;> simp

theorem causeStop_ne_reserved {inp : Inputs} {v : EcCode} : causeStop inp ≠ some (.reservedCode v) := by
  unfold causeStop
  dsimp only
  repeat' split
  all_goals simp

theorem disabledCall_ne_reserved {p : Params} {v : EcCode} : disabledCall p ≠ .refuse (.reservedCode v) := by
  unfold disabledCall require
  split
  · simp
  · split <;> simp

theorem causeArm_ne_reserved {p : Params} {inp : Inputs} {rel : Relation} {v : EcCode} :
    causeArm p inp rel ≠ .refuse (.reservedCode v) := by
  by_cases hcall : isDisabledCall inp
  · rw [causeArm_disabledCall hcall]
    exact disabledCall_ne_reserved
  obtain ⟨c, hc, _⟩ | ⟨hno, _⟩ | ⟨r, hr, hmem⟩ := causeArm_cases p hcall rel
  · simp [hc]
  · simp [hno]
  · rw [hr]
    rintro ⟨⟩
    simp at hmem

/-- No check that a row goes through is about a reserved code, so only a reserved row is refused for one. -/
theorem exec_ne_reserved {i : Instr} {s : State} {v : EcCode} (hi : i.wf = true) :
    exec i s ≠ .refused (.reservedCode v) := by
  obtain ⟨arm, hexec, harm⟩ := exec_eq_runArm i s hi
  rw [hexec, runArm_eq_outcomeOf, Ne, outcomeOf_eq_refused]
  have harm_ne : ∀ rel, arm rel ≠ .refuse (.reservedCode v) := fun rel h => by
    obtain h' | h' := harm rel
    · exact causeArm_ne_reserved (h'.symm.trans h)
    · simp [h'] at h
  intro h
  unfold settledArm at h
  split at h
  · rename_i hr
    exact checkedRelation_ne_reserved (hr.trans (by simpa using h))
  split at h
  · rename_i hs
    exact causeStop_ne_reserved (hs.trans (by simpa using h))
  split at h
  · rename_i c _
    cases had : admission s.params c s.inp.execState s.inp.target with
    | none => simp [had] at h
    | some r => exact admission_ne_reserved (v := v) (had.trans (by simpa [had] using h))
  · exact harm_ne _ h

/-- A step from a legal state on an event of the machine's own is not refused for a reserved code: the row that a cause
selects is no reserved row, and a legal holder holds the code of a class. -/
theorem step_ne_reserved {s : State} {v : EcCode} (hlegal : s.legal = true)
    (hinternal : ∀ p ∈ s.pending, isInternalEvent p.event = true) : step s ≠ .refused (.reservedCode v) := by
  intro h
  cases hp : s.pending with
  | nil => simp [step, fetch, hp] at h
  | cons p rest =>
    have hfront : isInternalEvent p.event = true := hinternal p (by simp [hp])
    cases he : p.event with
    | causes others =>
      cases hr : checkedRelation (selectByPriority p.inputs others) with
      | error r =>
        rw [step_of_relation_error hp he hr] at h
        cases h
        exact checkedRelation_ne_reserved hr
      | ok rel =>
        cases hi : selectRow (selectByPriority p.inputs others) rel with
        | error r =>
          obtain ⟨rfl, _⟩ := causeArm_of_selectRow_error (p := s.params) hi
          simp [step_of_selectRow_error hp he hr hi] at h
        | ok i =>
          rw [step_of_selectRow hp he hr hi] at h
          exact exec_ne_reserved (selectRow_cls hi) h
    | code b => simp [isInternalEvent, he] at hfront
    | handlerWord u w => simp [isInternalEvent, he] at hfront
    | handlerRead u =>
      rw [step_of_handlerRead hp he] at h
      cases hlevel : levelPresent s.params u with
      | false => simp [handlerRead, hlevel] at h
      | true =>
        cases hy : (s.latch p.inputs rest).holder u with
        | none => simp [handlerRead_of_unwritten (s := s.latch p.inputs rest) hlevel hy] at h
        | some y =>
          obtain ⟨c, _, _, hread⟩ := handlerRead_of_legal (legal_latch hlegal p.inputs rest) hlevel hy
          simp [hread] at h
    | exceptionReturn => simp [step_of_return_or_noCause hp (.inl he)] at h
    | noCause => simp [step_of_return_or_noCause hp (.inr he)] at h

/-- Settles O55: a step keeps a state legal (O48) and only shortens the list, so no step of the run meets one. -/
theorem aRunFromALegalStateNeverMeetsAReservedCode : Obligations.ARunFromALegalStateNeverMeetsAReservedCode := by
  intro k s v hlegal hinternal
  refine run_ne_refused (P := fun u => u.legal = true ∧ ∀ p ∈ u.pending, isInternalEvent p.event = true)
    ?_ (fun u hu => step_ne_reserved hu.1 hu.2) ⟨hlegal, hinternal⟩
  rintro u w ⟨hu, hlist⟩ hstep
  obtain ⟨p, hp⟩ := step_next_pending hstep
  exact ⟨stepKeepsEverySyndromeLegal u w hu hstep, fun q hq => hlist q (hp ▸ List.mem_cons_of_mem _ hq)⟩

end Sys2Proof.Machine
end
